-- ==== Sys2Proof/Word.lean ====
section
/-! DEFINITION. The words the LMC is made of (spec 10_state.md, 00_scope.md R9 and R11).

How R11's notation is written: bit `v[i]` is `v.getLsbD i`, and bit 0 is the least significant; `v[hi:lo]` is
`v.extractLsb' lo (hi - lo + 1)`; `a : b` is `a ++ b`; `zext_N(v)` is `v.setWidth N`, or zeros before `v`;
`sext_N(v)`, read as a number, is `v.toInt`; an element of `UIntN` is a `BitVec N`, and arithmetic that R11 calls exact is
on its `toNat` or `toInt`; a rational is a `ℚ` (`normalizedValue`, `scaleValue`). No definition uses `Float`. -/

namespace Sys2Proof

/-- A 32-bit word of the Host command port (R22). -/
abbrev Word := BitVec 32

/-- A byte of the two-wire bus, a status code or a driver-chip register index (R27 to R30). -/
abbrev Byte := BitVec 8

/-- A 7-bit chip address (R9, R66). -/
abbrev ChipAddr := BitVec 7

/-- A duty value, `0 .. 4095` (R9, R35). -/
abbrev Duty := BitVec 12

/-- The column-enable vector (R38). -/
abbrev Enables := BitVec 9

end Sys2Proof
end

