-- ==== Sys2Proof/Syntax.lean ====
section
/-! DEFINITION. The LMC's commands: one constructor per row of spec/opcode_table.json (30_encoding.md R87). -/

namespace Sys2Proof

/-- A command with its operand fields as the command word carries them (R80 to R86).
Every operand is a bit vector of the field's width, so every term is an instruction some word encodes. -/
inductive Instr where
  /-- BD_INIT, format N, OPC 0x01 (R105). -/
  | bdInit
  /-- BD_START, format N, OPC 0x02 (R106). -/
  | bdStart
  /-- BD_STOP, format N, OPC 0x03 (R107). -/
  | bdStop
  /-- BD_WRITE, format B, OPC 0x04 (R108). -/
  | bdWrite (b : Byte)
  /-- BD_READ_ACK, format N, OPC 0x05 (R109). -/
  | bdReadAck
  /-- BD_READ_NACK, format N, OPC 0x06 (R110). -/
  | bdReadNack
  /-- BD_STATUS, format N, OPC 0x07 (R111). -/
  | bdStatus
  /-- RT_WRITE_REG, format RW, OPC 0x10: chip address, register index, value (R134). -/
  | rtWriteReg (a : ChipAddr) (g v : Byte)
  /-- CHIP_INIT, format A, OPC 0x11 (R180). -/
  | chipInit (a : ChipAddr)
  /-- TB_INIT, format N, OPC 0x20 (R192). -/
  | tbInit
  /-- TB_START, format N, OPC 0x21 (R193). -/
  | tbStart
  /-- TB_STOP, format N, OPC 0x22 (R194). -/
  | tbStop
  /-- TB_CLEAR, format N, OPC 0x23 (R195). -/
  | tbClear
  /-- TB_READ, format N, OPC 0x24 (R196). -/
  | tbRead
  /-- BUF_CLEAR, format N, OPC 0x30 (R210). -/
  | bufClear
  /-- BUF_SET_BRIGHTNESS, format CELL, OPC 0x31: row, column, channel (R211). -/
  | bufSetBrightness (r c : BitVec 4) (h : BitVec 2)
  /-- BUF_READ, format CELL, OPC 0x32: row, column, channel (R215). -/
  | bufRead (r c : BitVec 4) (h : BitVec 2)
  /-- SET_SCALE, format N, OPC 0x33 (R216). -/
  | setScale
  /-- SWEEP, format N, OPC 0x40 (R150). -/
  | sweep
  deriving DecidableEq, Repr

end Sys2Proof
end

