-- ==== Sys2Proof/Config.lean ====
section
/-! DEFINITION. What an implementation fixes (00_scope.md R10), the environment's moves (R8, R102, R190), and the
free values the spec leaves to a draw (R12, R35, R64, R111). -/

namespace Sys2Proof

/-- One entry of the wiring table `ROWMAP`: the chip and the two off-time registers of a (row, channel) pair (R156). -/
structure Wire where
  /-- Which of the two driver chips. -/
  sel : Fin 2
  /-- The register that takes the duty's low byte. -/
  offL : Byte
  /-- The register that takes the duty's high byte. -/
  offH : Byte
  deriving DecidableEq, Repr, Inhabited

/-- The parameters of one board, which the spec asks a model to take as arguments (R10, R61).
They are configuration, not state (R42): `State.cfg` carries them and no step changes them (DESIGN CHOICE, log 1). -/
structure Board where
  /-- `TB_WIDTH`, the Time Base counter's width (D18). -/
  tbWidth : Nat
  /-- `STATUS_MASK` (D11). -/
  statusMask : Byte
  /-- `CHIP_ADDR`, the two chip addresses (D26). -/
  chipAddr : Vector ChipAddr 2
  /-- `ROWMAP[r][ch]` (D26). -/
  rowmap : Vector (Vector Wire 3) 9
  /-- `COL_ORDER`, the column traversal order (D24). -/
  colOrder : Vector (Fin 9) 9
  /-- `EN_ACTIVE_LOW`, the enable pins' polarity (D27). -/
  enActiveLow : Bool
  /-- `INIT_SEQ`, the (register, value) writes of a chip's initialization (D35). -/
  initSeq : List (Byte × Byte)
  /-- `LMC_BASE`, where the command port sits in the Host's address map (D46). -/
  lmcBase : Nat
  deriving DecidableEq, Repr

/-- A Host access to the command port: an offset from `LMC_BASE`, a width in bits and, for a write, the word (R61, R62).
The offset is an integer, because the Host can name any address of its map. -/
inductive HostAccess where
  /-- `HostRead(off)` of `width` bits. -/
  | read (off : Int) (width : Nat)
  /-- `HostWrite(off, v)` of `width` bits. -/
  | write (off : Int) (width : Nat) (v : Word)
  deriving DecidableEq, Repr, Inhabited

/-- What the Host's thread does next (30_encoding.md R91, R92). -/
inductive HostOp where
  /-- One access of the command port. -/
  | access (a : HostAccess)
  /-- `WAIT`: read CSR until `BUSY = 0` (R91, R244). -/
  | wait
  /-- The end of `WREG_RETRY`: read CSR, and write the register again unless RESP is OK (R92). -/
  | retryUnlessOk (a : ChipAddr) (g v : Byte)
  deriving DecidableEq, Repr

/-- Whose step comes next, with what the environment draws for it (R8, R12, R71).
An interleaving of the agents is a list of turns. -/
inductive Turn where
  /-- The Host makes one access of its own choosing. -/
  | host (a : HostAccess)
  /-- The Host performs the next operation of `State.hostProg`. -/
  | hostProgram
  /-- The Controller steps, if it has a step (R21). -/
  | controller
  /-- The BusPeer completes the pending phase, if there is one, with this raw status and received byte (R102). -/
  | busPeer (raw rx : Byte)
  /-- The 1 ms timer interrupt (R190). -/
  | tick
  /-- Power is applied: the one reset the LMC has (R260). -/
  | powerOn
  deriving DecidableEq, Repr, Inhabited

/-- FREE VALUE (DESIGN CHOICE, log 4): the turn that comes next when no turn is placed in `State.script`; the argument is `State.draws`. -/
opaque Config.freeTurn : Nat → Turn

/-- FREE VALUE (DESIGN CHOICE, log 5): the byte BD_STATUS draws while `STAT` is UNKNOWN (R111, D15). -/
opaque Config.drawByte : Nat → Byte

/-- FREE VALUE (DESIGN CHOICE, log 6): the word a read of RESULT draws while `BUSY = 1` (R64, D9). -/
opaque Config.drawWord : Nat → Word

/-- FREE VALUE (DESIGN CHOICE, log 7): a Brightness Buffer cell's value after the reset numbered by the first argument (R35, D31). -/
opaque Config.drawCell : Nat → Fin 243 → Duty

/-- OPEN parameter `CHIP_ADDR` of the board that reset starts (D26; DESIGN CHOICE, log 2). -/
opaque Config.chipAddr : Fin 2 → ChipAddr

/-- OPEN parameter `ROWMAP` of the board that reset starts (D26; DESIGN CHOICE, log 2). -/
opaque Config.rowmap : Fin 9 → Fin 3 → Wire

/-- OPEN parameter `COL_ORDER` of the board that reset starts: some permutation of the columns (D24; DESIGN CHOICE, log 2). -/
opaque Config.colOrder : Equiv.Perm (Fin 9)

/-- OPEN parameter `EN_ACTIVE_LOW` of the board that reset starts (D27; DESIGN CHOICE, log 2). -/
opaque Config.enActiveLow : Bool

/-- OPEN parameter `INIT_SEQ` of the board that reset starts (D35; DESIGN CHOICE, log 2). -/
opaque Config.initSeq : List (Byte × Byte)

/-- OPEN parameter `LMC_BASE` of the board that reset starts (D46; DESIGN CHOICE, log 2). -/
opaque Config.lmcBase : Nat

/-- `TB_WIDTH` at its spec value (R10, D18; DEDUCED, log 3). -/
def Config.tbWidth : Nat := 32

/-- `STATUS_MASK` at its spec value (R10, R103, D11; DEDUCED, log 3). -/
def Config.statusMask : Byte := 0xF8#8

/-- The board that `State.reset` describes: the spec values where R10 gives them, unknown constants elsewhere. -/
def Config.board : Board where
  tbWidth := Config.tbWidth
  statusMask := Config.statusMask
  chipAddr := #v[Config.chipAddr 0, Config.chipAddr 1]
  rowmap := Vector.ofFn fun r => Vector.ofFn fun ch => Config.rowmap r ch
  colOrder := Vector.ofFn fun i => Config.colOrder i
  enActiveLow := Config.enActiveLow
  initSeq := Config.initSeq
  lmcBase := Config.lmcBase

end Sys2Proof
end

