-- ==== Sys2Proof/Machine/State.lean ====
section
/-! DEFINITION. The LMC's architectural state (spec 10_state.md R20 to R42), its fault kinds and its reset state (R261). -/

namespace Sys2Proof.Machine

/-- The fault kinds `FAULT` can hold (R234 to R238).
A fault is a state of the LMC (R236), so the step that raises one answers a next state whose `fault` holds the kind;
no step of this model answers `Host.Outcome.fault` (DEDUCED, log 18). -/
inductive Fault where
  /-- Raised by a Host write of CMD or ARG while `BUSY = 1` (R234).
  Safe: the spec asks for it, and nothing is claimed of the machine after it. -/
  | hostProtocol
  /-- Raised by a Host access of a bad offset, width, alignment or direction (R235).
  Safe: as `hostProtocol`. -/
  | hostAccess
  /-- Raised by a bus procedure while `BD_EN = 0` (R237).
  Safe: as `hostProtocol`. -/
  | busNotEnabled
  /-- Raised by TB_START and SWEEP while `TB_CFG = 0` (R238).
  Safe: as `hostProtocol`. -/
  | tbNotConfigured
  deriving DecidableEq, Repr

/-- Why a step could have no meaning. -/
inductive Refusal where
  /-- Raised by an arm of `exec` whose command has no meaning yet, under the command's mnemonic.
  Safe; no arm of this model raises it. -/
  | notModelled (mnemonic : String)
  deriving DecidableEq, Repr

/-- The response codes of CSR.RESP (R25). -/
inductive Resp where
  | ok
  | busFailure
  | inputError
  | illegalCommand
  deriving DecidableEq, Repr

/-- `BD_PEND`, the pending bus phase (R27). A STOP is never pending. -/
inductive Pend where
  | none
  | start
  | write (b : Byte)
  | read (ack : Bool)
  deriving DecidableEq, Repr

/-- The events of `BUS_TRACE` (R101). -/
inductive BusEvent where
  | start
  | byte (b : Byte)
  | read (ack : Bool)
  | stop
  deriving DecidableEq, Repr

/-- The events of `OUT_TRACE` (R40): `EN := v` and `HB := v`. -/
inductive OutEvent where
  | en (v : Enables)
  | hb (v : Bool)
  deriving DecidableEq, Repr

/-- `RT_PH`, the phase a register write waits for (R30). -/
inductive Phase where
  | start
  | address
  | register
  | data
  deriving DecidableEq, Repr

/-- What the Register Transaction Sequencer holds while a transaction runs (R30). -/
structure Txn where
  /-- `RT_ADDR`. -/
  addr : ChipAddr
  /-- `RT_REG`. -/
  reg : Byte
  /-- `RT_VAL`. -/
  val : Byte
  /-- `RT_PH`. -/
  ph : Phase
  deriving DecidableEq, Repr

/-- `SE_HALF` (R37). -/
inductive Half where
  | low
  | high
  deriving DecidableEq, Repr

/-- What the Scan Engine holds while SWEEP runs (R37). -/
structure Scan where
  /-- `SE_BASE`, the counter at entry. -/
  base : Nat
  /-- `SE_P`, the period in ticks. -/
  period : Nat
  /-- `SE_I`, the position in `COL_ORDER`. -/
  i : Fin 9
  /-- `SE_R`, the row. -/
  r : Fin 9
  /-- `SE_CH`, the channel. -/
  ch : Fin 3
  /-- `SE_HALF`, which byte of the duty value. -/
  half : Half
  /-- `SE_FAILS`, the failed transactions so far. -/
  fails : Word
  deriving DecidableEq, Repr

/-- Which command a register write belongs to, with what that command holds meanwhile. -/
inductive Caller where
  /-- RT_WRITE_REG (R134). -/
  | writeReg
  /-- CHIP_INIT, with `CI_ADDR` and `CI_IDX` (R31). -/
  | chipInit (addr : ChipAddr) (idx : Nat)
  /-- SWEEP, with the Scan Engine's registers (R37). -/
  | sweep (se : Scan)
  deriving DecidableEq, Repr

/-- What the Controller does once the pending phase is complete. -/
inductive Wait where
  /-- BD_START and BD_WRITE: `respond(OK, 0)` (R106, R108). -/
  | respondZero
  /-- BD_READ_ACK and BD_READ_NACK: `respond(OK, zext_32(RXD))` (R109, R110). -/
  | respondByte
  /-- A register write: check the status and go on (R130). -/
  | txn (t : Txn) (who : Caller)
  deriving DecidableEq, Repr

/-- `CTL`, the Controller's control point (R21). -/
inductive Ctl where
  /-- `IDLE`: no command in progress. -/
  | idle
  /-- The start of the command whose word CMD holds (R24). -/
  | start
  /-- `WAIT_BUS`, inside a command: held while a phase is pending, and once it is complete until the Controller's next
  turn (R102; DESIGN CHOICE, log 25). -/
  | waitBus (w : Wait)
  deriving DecidableEq, Repr

/-- The state of the LMC, and of the environment as far as the LMC meets it. -/
structure State where
  /-- The board's parameters: the model's own field, which no step changes (R10, R42; DESIGN CHOICE, log 1). -/
  cfg : Board
  /-- CMD (R22). -/
  cmd : Word
  /-- ARG (R22). -/
  arg : Word
  /-- RESULT (R22). -/
  result : Word
  /-- CSR.BUSY (R23). -/
  busy : Bool
  /-- CSR.RESP (R23, R25). -/
  resp : Resp
  /-- `CTL` with the operands R30, R31 and R37 hold as part of it (R21). -/
  ctl : Ctl
  /-- `BD_EN` (R26). -/
  bdEn : Bool
  /-- `BD_PEND` (R27; DESIGN CHOICE, log 25). -/
  bdPend : Pend
  /-- `STAT`: a masked status, or `none` for UNKNOWN (R28). -/
  stat : Option Byte
  /-- `RXD`: a received byte, or `none` for UNKNOWN (R29). -/
  rxd : Option Byte
  /-- `TB_CFG` (R32). -/
  tbCfg : Bool
  /-- `TB_RUN` (R33). -/
  tbRun : Bool
  /-- `CNT`, below `2^TB_WIDTH` (R34; DESIGN CHOICE, log 22). -/
  cnt : Nat
  /-- `BUF`, the 243 cells, cell `(ch, r, c)` at `cellIndex ch r c` (R35). -/
  buf : Vector Duty 243
  /-- `SCALE` (R36). -/
  scale : Word
  /-- `EN` (R38). -/
  en : Enables
  /-- `HB` (R39). -/
  hb : Bool
  /-- `BUS_TRACE`, oldest event first (R40). -/
  busTrace : List BusEvent
  /-- `OUT_TRACE`, oldest event first (R40). -/
  outTrace : List OutEvent
  /-- `FAULT` (R41). -/
  fault : Option Fault
  /-- The model's own: what the Host's thread does next when it follows a program (R8, R91; DESIGN CHOICE, log 19). -/
  hostProg : List HostOp
  /-- The model's own: the word the Host's last access gave it, if it gave one (R64; DESIGN CHOICE, log 19). -/
  hostData : Option Word
  /-- The model's own: the turns placed ahead, first one next (R71; DESIGN CHOICE, log 4). -/
  script : List Turn
  /-- The model's own: how many free values have been drawn (R12; DESIGN CHOICE, log 4). -/
  draws : Nat
  deriving DecidableEq, Repr

/-- The LMC after power-on (R260, R261): every element at the value of R261's table.
The board is `Config.board`; each cell of `BUF` holds a draw of the reset step, which is draw 0 (DESIGN CHOICE, log 7);
the model's own fields start as log 19 says (DESIGN CHOICE). -/
def State.reset : State where
  cfg := Config.board
  cmd := 0
  arg := 0
  result := 0
  busy := false
  resp := .ok
  ctl := .idle
  bdEn := false
  bdPend := .none
  stat := none
  rxd := none
  tbCfg := false
  tbRun := false
  cnt := 0
  buf := Vector.ofFn (Config.drawCell 0)
  scale := 0x00010000
  en := 0
  hb := false
  busTrace := []
  outTrace := []
  fault := none
  hostProg := []
  hostData := none
  script := []
  draws := 1

end Sys2Proof.Machine
end

