-- ==== Sys2Proof/Machine/Flags.lean ====
section
/-! DEFINITION. The status word the Host reads (R22, R23, R25). The LMC has no arithmetic flags (R20). -/

namespace Sys2Proof.Machine

/-- The two bits of CSR.RESP (R25). -/
def Resp.code : Resp → BitVec 2
  | .ok => 0
  | .busFailure => 1
  | .inputError => 2
  | .illegalCommand => 3

/-- CSR: BUSY in bit 0, RESP in bits 2:1, bits 31:3 hardwired 0 (R23). -/
def State.csr (s : State) : Word := 0#29 ++ s.resp.code ++ BitVec.ofBool s.busy

/-- BUSY as a CSR word carries it (R23). -/
def csrBusy (w : Word) : Bool := w.getLsbD 0

/-- RESP as a CSR word carries it (R23). -/
def csrResp (w : Word) : BitVec 2 := w.extractLsb' 1 2

end Sys2Proof.Machine
end

