-- ==== Sys2Proof/Machine/Operands.lean ====
section
/-! DEFINITION. How operands are read (R86, R131, R157), cells indexed (R35, R65) and values quantized (R212). -/

namespace Sys2Proof.Machine

/-- The address byte `SLAW(a) = a[6:0] : 0` (R131). -/
def slaw (a : ChipAddr) : Byte := a ++ 0#1

/-- `d[7:0]`, which goes to `offL` (R157). -/
def dutyLow (d : Duty) : Byte := d.extractLsb' 0 8

/-- `zext_8(d[11:8])`, which goes to `offH` (R157). -/
def dutyHigh (d : Duty) : Byte := 0#4 ++ d.extractLsb' 8 4

/-- Where the cell of channel `ch`, row `r`, column `c` stands in `State.buf` (R35; DEDUCED, log 17). -/
def cellIndex (ch : Fin 3) (r c : Fin 9) : Fin 243 :=
  ⟨ch.val * 81 + r.val * 9 + c.val, by omega⟩

/-- The cell a CELL command names, when its indices are in range (R85, R86, R214). -/
def cellOf (r c : BitVec 4) (h : BitVec 2) : Option (Fin 243) :=
  if hb : r.toNat ≤ 8 ∧ c.toNat ≤ 8 ∧ h.toNat ≤ 2 then
    some (cellIndex ⟨h.toNat, by omega⟩ ⟨r.toNat, by omega⟩ ⟨c.toNat, by omega⟩)
  else none

/-- The cell `BUF[ch][r][c]` (R35). -/
def State.cell (s : State) (ch : Fin 3) (r c : Fin 9) : Duty := s.buf[cellIndex ch r c]

/-- `V = sext_32(ARG)`, the normalized value times `2^16` (R86, R212). -/
def normalized (arg : Word) : Int := arg.toInt

/-- `0 ≤ v ≤ 1` (R214). -/
def normalizedOk (arg : Word) : Bool := decide (0 ≤ normalized arg ∧ normalized arg ≤ 65536)

/-- `Q(v, s)` in integers: `V` and `S` are the normalized value and the scale times `2^16` (R212). -/
def quantize (v s : Nat) : Nat := min 4095 ((4095 * v * s + 2 ^ 31) / 2 ^ 32)

/-- The normalized value `v = sext_32(ARG) / 65536`, an exact rational (R11, R86). -/
def normalizedValue (arg : Word) : ℚ := (normalized arg : ℚ) / 65536

/-- The scale `SCALE / 65536`, an exact rational (R11, R36, R86). -/
def scaleValue (scale : Word) : ℚ := (scale.toNat : ℚ) / 65536

/-- `roundHalfUp(x) = floor(x + 1/2)` (R212). -/
def roundHalfUp (x : ℚ) : Int := ⌊x + 1 / 2⌋

/-- `Q(v, s) = min(4095, max(0, roundHalfUp(4095 * v * s)))` on the exact rationals (R11, R212): what `quantize`
computes in integers. -/
def quantizeExact (v s : ℚ) : Int := min 4095 (max 0 (roundHalfUp (4095 * v * s)))

/-- ARG is a period that fits the Time Base: bits `31:TB_WIDTH` are zero (R86, R150). -/
def periodOk (tbWidth : Nat) (arg : Word) : Bool := decide (arg.toNat < 2 ^ tbWidth)

/-- `P = ARG mod 2^TB_WIDTH` (R86). -/
def periodOf (tbWidth : Nat) (arg : Word) : Nat := arg.toNat % 2 ^ tbWidth

/-- The elapsed ticks `(CNT - SE_BASE) mod 2^TB_WIDTH` (R159; DESIGN CHOICE, log 22). -/
def elapsed (tbWidth cnt base : Nat) : Nat := (((cnt : Int) - (base : Int)) % 2 ^ tbWidth).toNat

/-- The one-hot value `1 << c` (R154). -/
def oneHot (c : Fin 9) : Enables := 1#9 <<< c.val

/-- A column enable vector that may stand in `EN`: all off, or exactly one column (R38). -/
def enLegal (v : Enables) : Bool := v == 0 || (List.finRange 9).any fun c => v == oneHot c

/-- The level of the pin that drives column `c`: `EN[c] XOR EN_ACTIVE_LOW` (R38). -/
def State.pin (s : State) (c : Fin 9) : Bool := s.en.getLsbD c.val ^^ s.cfg.enActiveLow

/-- The chip address, register and byte of the transaction for one half of one cell: position `i` of `COL_ORDER`, row,
channel and half (R155 to R157; DEDUCED, log 14). -/
def State.scanWrite (s : State) (i r : Fin 9) (ch : Fin 3) (half : Half) : ChipAddr × Byte × Byte :=
  let d := s.cell ch r s.cfg.colOrder[i]
  let w := s.cfg.rowmap[r][ch]
  match half with
  | .low => (s.cfg.chipAddr[w.sel], w.offL, dutyLow d)
  | .high => (s.cfg.chipAddr[w.sel], w.offH, dutyHigh d)

end Sys2Proof.Machine
end

