-- ==== Sys2Proof/Machine/Ops.lean ====
section
/-! DEFINITION. The operations every command is built from: the histories, `respond`, `raise`, free draws, the bus
procedures (R12, R24, R102, R104, R236), the Time Base and Buffer writes, and power-on reset (R260). -/

namespace Sys2Proof.Machine

/-! ### Outputs with their history (R40) -/

/-- `EN <- v; emit(EN := v)` in one step (R70, R154). -/
def State.setEn (s : State) (v : Enables) : State :=
  { s with en := v, outTrace := s.outTrace ++ [.en v] }

/-- `HB <- not HB; emit(HB := HB)` (R153). -/
def State.toggleHb (s : State) : State :=
  { s with hb := !s.hb, outTrace := s.outTrace ++ [.hb !s.hb] }

/-! ### How a command ends (R24, R236) -/

/-- `respond(code, result)` (R24). -/
def State.respond (s : State) (code : Resp) (result : Word) : State :=
  { s with result := result, resp := code, busy := false, ctl := .idle }

/-- `raise Fault(kind)`: the faulted state is entered, and the step's remaining actions do not happen (R236).
A `FAULT` that is already set keeps its kind (R41). The control point and BUSY keep their values (DEDUCED, log 9). -/
def State.raise (s : State) (kind : Fault) : State :=
  match s.fault with
  | none => { s with fault := some kind }
  | some _ => s

/-! ### Free draws (R12) -/

/-- One free value has been drawn. -/
def State.drew (s : State) : State := { s with draws := s.draws + 1 }

/-- `Draw() AND STATUS_MASK`, a masked status no phase has reported (R111). -/
def State.drawnStatus (s : State) : Byte := Config.drawByte s.draws &&& s.cfg.statusMask

/-- `STAT` as a read finds it: its value, or a fresh masked draw while it is UNKNOWN (R28, R111), with the state after
the read. -/
def State.readStat (s : State) : Byte × State :=
  match s.stat with
  | some v => (v, s)
  | none => (s.drawnStatus, s.drew)

/-- `RXD` as a read finds it: its value, or a fresh draw while it is UNKNOWN (R29; DESIGN CHOICE, log 10). -/
def State.readRxd (s : State) : Byte × State :=
  match s.rxd with
  | some b => (b, s)
  | none => (Config.drawByte s.draws, s.drew)

/-! ### The bus procedures (R104) -/

/-- What `BusStart`, `BusWrite` and `BusRead` do while `BD_EN = 1`: the event is emitted, the phase is pending, and the
Controller waits at `WAIT_BUS` (R102). -/
def State.issue (s : State) (ev : BusEvent) (p : Pend) (w : Wait) : State :=
  { s with busTrace := s.busTrace ++ [ev], bdPend := p, ctl := .waitBus w }

/-- A bus procedure that waits: it faults before any event while `BD_EN = 0` (R104, R237). -/
def State.busPhase (s : State) (ev : BusEvent) (p : Pend) (w : Wait) : State :=
  if s.bdEn then s.issue ev p w else s.raise .busNotEnabled

/-- `BusStart()`, then `w` (R104). -/
def State.busStart (s : State) (w : Wait) : State := s.busPhase .start .start w

/-- `BusWrite(b)`, then `w` (R104). -/
def State.busWrite (s : State) (b : Byte) (w : Wait) : State := s.busPhase (.byte b) (.write b) w

/-- `BusRead(ack)`, then `w` (R104). -/
def State.busRead (s : State) (ack : Bool) (w : Wait) : State := s.busPhase (.read ack) (.read ack) w

/-- What `BusStop()` does while `BD_EN = 1`: the event, and no wait (R104, R107). -/
def State.issueStop (s : State) : State := { s with busTrace := s.busTrace ++ [.stop], stat := none }

/-- `BusStop()`, then, in the same step, `next` (R104, R107). -/
def State.busStop (s : State) (next : State → State) : State :=
  if s.bdEn then next s.issueStop else s.raise .busNotEnabled

/-- The BusPeer's completion of the pending phase, with the raw status and the received byte it draws (R102).
CTL stays at `WAIT_BUS`, now with nothing pending, until the Controller's next turn, so R27's "exactly while at
`WAIT_BUS`" holds in one direction meanwhile (DESIGN CHOICE, log 25). -/
def State.completePhase (s : State) (raw rx : Byte) : State :=
  match s.bdPend with
  | .read _ => { s with stat := some (raw &&& s.cfg.statusMask), rxd := some rx, bdPend := .none }
  | .none | .start | .write _ => { s with stat := some (raw &&& s.cfg.statusMask), bdPend := .none }

/-! ### The Time Base (R190, R197) -/

/-- One tick: `CNT <- (CNT + 1) mod 2^TB_WIDTH` (R190). -/
def State.countTick (s : State) : State := { s with cnt := (s.cnt + 1) % 2 ^ s.cfg.tbWidth }

/-! ### The Brightness Buffer (R35, R65) -/

/-- `BUF[ch][r][c] <- d`, the cell named by its index. -/
def State.writeCell (s : State) (i : Fin 243) (d : Duty) : State := { s with buf := s.buf.set i d }

/-- Every cell `<- 0` in one step (R210). -/
def State.clearBuf (s : State) : State := { s with buf := Vector.replicate 243 0 }

/-! ### Reset (R260, R261) -/

/-- Power-on reset, the one event that leaves the faulted state (R236, R260).
Every element takes its value of R261; the board stays (R42); the cells of `BUF` take fresh draws (R35); the Host and
the schedule are outside the LMC and go on (DEDUCED, log 8). -/
def State.powerOn (s : State) : State :=
  { State.reset with
    cfg := s.cfg
    buf := Vector.ofFn (Config.drawCell s.draws)
    hostProg := s.hostProg
    hostData := s.hostData
    script := s.script
    draws := s.draws + 1 }

end Sys2Proof.Machine
end

