-- ==== Sys2Proof/Machine/Brightness.lean ====
section
/-! DEFINITION. The Brightness Buffer's commands (45_brightness_buffer.md R210 to R216). -/

namespace Sys2Proof.Machine

/-- BUF_CLEAR (R210). -/
def execBufClear (s : State) : Host.Outcome State Fault Refusal :=
  .next (s.clearBuf.respond .ok 0)

/-- The duty BUF_SET_BRIGHTNESS stores, from ARG and SCALE (R211, R212). -/
def State.dutyOfArg (s : State) : Duty :=
  BitVec.ofNat 12 (quantize (normalized s.arg).toNat s.scale.toNat)

/-- BUF_SET_BRIGHTNESS: an index or a value out of range answers INPUT_ERROR and writes no cell (R211, R214). -/
def execBufSetBrightness (r c : BitVec 4) (h : BitVec 2) (s : State) : Host.Outcome State Fault Refusal :=
  .next (match cellOf r c h with
    | some i =>
      if normalizedOk s.arg then (s.writeCell i s.dutyOfArg).respond .ok (s.dutyOfArg.setWidth 32)
      else s.respond .inputError 0
    | none => s.respond .inputError 0)

/-- BUF_READ (R215). -/
def execBufRead (r c : BitVec 4) (h : BitVec 2) (s : State) : Host.Outcome State Fault Refusal :=
  .next (match cellOf r c h with
    | some i => s.respond .ok (s.buf[i].setWidth 32)
    | none => s.respond .inputError 0)

/-- SET_SCALE (R216). -/
def execSetScale (s : State) : Host.Outcome State Fault Refusal :=
  .next ({ s with scale := s.arg }.respond .ok 0)

end Sys2Proof.Machine
end

