-- ==== Sys2Proof/Machine/BusDriver.lean ====
section
/-! DEFINITION. The Bus Driver's commands (40_bus_driver.md R105 to R111). -/

namespace Sys2Proof.Machine

/-- BD_INIT (R105). -/
def execBdInit (s : State) : Host.Outcome State Fault Refusal :=
  .next ({ s with bdEn := true }.respond .ok 0)

/-- BD_START: `BusStart()`, then `respond(OK, 0)` once the phase is complete (R106). -/
def execBdStart (s : State) : Host.Outcome State Fault Refusal :=
  .next (s.busStart .respondZero)

/-- BD_STOP: `BusStop(); respond(OK, 0)` in one step (R107). -/
def execBdStop (s : State) : Host.Outcome State Fault Refusal :=
  .next (s.busStop fun t => t.respond .ok 0)

/-- BD_WRITE: `BusWrite(b)`, then `respond(OK, 0)` once the phase is complete (R108). -/
def execBdWrite (b : Byte) (s : State) : Host.Outcome State Fault Refusal :=
  .next (s.busWrite b .respondZero)

/-- BD_READ_ACK: `BusRead(true)`, then `respond(OK, zext_32(RXD))` once the phase is complete (R109). -/
def execBdReadAck (s : State) : Host.Outcome State Fault Refusal :=
  .next (s.busRead true .respondByte)

/-- BD_READ_NACK: `BusRead(false)`, then `respond(OK, zext_32(RXD))` once the phase is complete (R110). -/
def execBdReadNack (s : State) : Host.Outcome State Fault Refusal :=
  .next (s.busRead false .respondByte)

/-- BD_STATUS: the status, or a fresh masked draw while it is UNKNOWN; it needs no enable (R111). -/
def execBdStatus (s : State) : Host.Outcome State Fault Refusal :=
  .next (s.readStat.2.respond .ok (s.readStat.1.setWidth 32))

end Sys2Proof.Machine
end

