-- ==== Sys2Proof/Machine/RegisterTransaction.lean ====
section
/-! DEFINITION. The Register Transaction Sequencer (41_register_transaction.md R130 to R136). -/

namespace Sys2Proof.Machine

/-- The status a phase of a register write must report, after masking (R132). -/
def Phase.expected : Phase → Byte
  | .start => 0x08
  | .address => 0x18
  | .register => 0x28
  | .data => 0x28

/-- The phase numbers 1 to 4 (R130). -/
def Phase.number : Phase → BitVec 4
  | .start => 1
  | .address => 2
  | .register => 3
  | .data => 4

/-- How a register write ends: the three values `WriteRegister` returns (R130). -/
structure TxnEnd where
  /-- Success or Failure. -/
  ok : Bool
  /-- The phase that failed, 0 on success. -/
  ph : BitVec 4
  /-- The status seen there, 0 on success. -/
  st : Byte
  deriving DecidableEq, Repr

/-- `WriteRegister(a, g, v)` up to its first wait: `BusStart()` (R130 step 1). -/
def State.writeRegister (s : State) (a : ChipAddr) (g v : Byte) (who : Caller) : State :=
  s.busStart (.txn { addr := a, reg := g, val := v, ph := .start } who)

/-- `WriteRegister` from the wait for phase `t.ph` on: the check, and on a match the next phase or the STOP.
On a mismatch it returns at once, with no STOP (R130, R132, R133).
`back` is what the caller does with the values returned, in the same step. -/
def State.checkPhase (s : State) (t : Txn) (who : Caller) (back : TxnEnd → State → State) : State :=
  let (st, s) := s.readStat
  if st = t.ph.expected then
    match t.ph with
    | .start => s.busWrite (slaw t.addr) (.txn { t with ph := .address } who)
    | .address => s.busWrite t.reg (.txn { t with ph := .register } who)
    | .register => s.busWrite t.val (.txn { t with ph := .data } who)
    | .data => s.busStop (back { ok := true, ph := 0, st := 0 })
  else back { ok := false, ph := t.ph.number, st := st } s

/-- What RT_WRITE_REG does with the outcome of its transaction: `ph << 8 | st` tells a failure (R134, R231). -/
def State.endWriteReg (s : State) (e : TxnEnd) : State :=
  if e.ok then s.respond .ok 0 else s.respond .busFailure (0#20 ++ e.ph ++ e.st)

/-- RT_WRITE_REG (R134). -/
def execRtWriteReg (a : ChipAddr) (g v : Byte) (s : State) : Host.Outcome State Fault Refusal :=
  .next (s.writeRegister a g v .writeReg)

end Sys2Proof.Machine
end

