-- ==== Sys2Proof/Machine/ChipInit.lean ====
section
/-! DEFINITION. The Chip Initialization Sequencer (43_chip_init.md R180 to R183). -/

namespace Sys2Proof.Machine

/-- The write of `INIT_SEQ[idx]`, or `respond(OK, 0)` when the sequence is done (R180). -/
def State.initWrite (s : State) (a : ChipAddr) (idx : Nat) : State :=
  match s.cfg.initSeq[idx]? with
  | some (g, v) => s.writeRegister a g v (.chipInit a idx)
  | none => s.respond .ok 0

/-- What CHIP_INIT does with the outcome of an attempt: the next write after a success, the same write again, at once
and without bound, after a failure (R181). -/
def State.endInitWrite (s : State) (a : ChipAddr) (idx : Nat) (e : TxnEnd) : State :=
  if e.ok then s.initWrite a (idx + 1) else s.initWrite a idx

/-- CHIP_INIT (R180). -/
def execChipInit (a : ChipAddr) (s : State) : Host.Outcome State Fault Refusal :=
  .next (s.initWrite a 0)

end Sys2Proof.Machine
end

