-- ==== Sys2Proof/Machine/ScanEngine.lean ====
section
/-! DEFINITION. The Scan Engine (42_scan_engine.md R150 to R165). -/

namespace Sys2Proof.Machine

/-- What follows one half-cell transaction in a pass (R155). -/
inductive ScanNext where
  /-- Another transaction of the same column. -/
  | sameColumn (se : Scan)
  /-- The first transaction of the next column. -/
  | nextColumn (se : Scan)
  /-- The pass is over. -/
  | passEnd
  deriving DecidableEq, Repr

/-- The order of a pass: low byte before high byte, channels inner, rows outer, columns outermost (R150, R155). -/
def Scan.next (se : Scan) : ScanNext :=
  match se.half with
  | .low => .sameColumn { se with half := .high }
  | .high =>
    if hc : se.ch.val < 2 then .sameColumn { se with half := .low, ch := ⟨se.ch.val + 1, by omega⟩ }
    else if hr : se.r.val < 8 then
      .sameColumn { se with half := .low, ch := 0, r := ⟨se.r.val + 1, by omega⟩ }
    else if hi : se.i.val < 8 then
      .nextColumn { se with half := .low, ch := 0, r := 0, i := ⟨se.i.val + 1, by omega⟩ }
    else .passEnd

/-- The transaction of the current half cell (R156, R157). -/
def State.scanTxn (s : State) (se : Scan) : State :=
  let w := s.scanWrite se.i se.r se.ch se.half
  s.writeRegister w.1 w.2.1 w.2.2 (.sweep se)

/-- Column select, then the column's first transaction (R154). -/
def State.scanColumn (s : State) (se : Scan) : State :=
  (s.setEn (oneHot s.cfg.colOrder[se.i])).scanTxn se

/-- A pass from its start: the heartbeat, the first column, its first transaction (R153). -/
def State.scanPass (s : State) (se : Scan) : State :=
  s.toggleHb.scanColumn { se with i := 0, r := 0, ch := 0, half := .low }

/-- The loop test and, when the period is over, the exit, in one step (R159, R160). -/
def State.scanTest (s : State) (se : Scan) : State :=
  if elapsed s.cfg.tbWidth s.cnt se.base < se.period then s.scanPass se
  else ({ s with tbRun := false, cnt := 0 }.setEn 0).respond .ok se.fails

/-- `SE_FAILS <- min(SE_FAILS + 1, 2^32 - 1)` (R158). -/
def countFail (fails : Word) : Word := BitVec.ofNat 32 (min (fails.toNat + 1) (2 ^ 32 - 1))

/-- What SWEEP does with the outcome of a transaction: a failure is counted, nothing is retried, and the pass goes on
(R158, R252). -/
def State.endScanWrite (s : State) (se : Scan) (e : TxnEnd) : State :=
  let se := if e.ok then se else { se with fails := countFail se.fails }
  match se.next with
  | .sameColumn se' => s.scanTxn se'
  | .nextColumn se' => s.scanColumn se'
  | .passEnd => s.scanTest se

/-- SWEEP's first step: the checks in the order of R239, then entry (R151) and the first pass up to its first wait. -/
def State.scanStart (s : State) : State :=
  if periodOk s.cfg.tbWidth s.arg then
    if s.tbCfg then
      { s with tbRun := true }.scanPass
        { base := s.cnt, period := periodOf s.cfg.tbWidth s.arg, i := 0, r := 0, ch := 0, half := .low,
          fails := 0 }
    else s.raise .tbNotConfigured
  else s.respond .inputError 0

/-- SWEEP (R150). -/
def execSweep (s : State) : Host.Outcome State Fault Refusal :=
  .next s.scanStart

end Sys2Proof.Machine
end

