-- ==== Sys2Proof/Machine/TimeBase.lean ====
section
/-! DEFINITION. The Time Base's commands (44_time_base.md R192 to R196). -/

namespace Sys2Proof.Machine

/-- TB_INIT (R192). -/
def execTbInit (s : State) : Host.Outcome State Fault Refusal :=
  .next ({ s with tbCfg := true }.respond .ok 0)

/-- TB_START (R193). -/
def execTbStart (s : State) : Host.Outcome State Fault Refusal :=
  .next (if s.tbCfg then { s with tbRun := true }.respond .ok 0 else s.raise .tbNotConfigured)

/-- TB_STOP (R194). -/
def execTbStop (s : State) : Host.Outcome State Fault Refusal :=
  .next ({ s with tbRun := false }.respond .ok 0)

/-- TB_CLEAR (R195). -/
def execTbClear (s : State) : Host.Outcome State Fault Refusal :=
  .next ({ s with cnt := 0 }.respond .ok 0)

/-- TB_READ: `respond(OK, zext_32(CNT))` (R196). -/
def execTbRead (s : State) : Host.Outcome State Fault Refusal :=
  .next (s.respond .ok (BitVec.ofNat 32 s.cnt))

end Sys2Proof.Machine
end

