-- ==== Sys2Proof/Machine/Dispatch.lean ====
section
/-! DEFINITION. `exec`: what the Controller does from the start of a command to its first wait or its response (R21, R24). -/

namespace Sys2Proof.Machine

def exec (i : Instr) (s : State) : Host.Outcome State Fault Refusal :=
  match i with
  | .bdInit => Sys2Proof.Machine.execBdInit s
  | .bdStart => Sys2Proof.Machine.execBdStart s
  | .bdStop => Sys2Proof.Machine.execBdStop s
  | .bdWrite b => Sys2Proof.Machine.execBdWrite b s
  | .bdReadAck => Sys2Proof.Machine.execBdReadAck s
  | .bdReadNack => Sys2Proof.Machine.execBdReadNack s
  | .bdStatus => Sys2Proof.Machine.execBdStatus s
  | .rtWriteReg a g v => Sys2Proof.Machine.execRtWriteReg a g v s
  | .chipInit a => Sys2Proof.Machine.execChipInit a s
  | .tbInit => Sys2Proof.Machine.execTbInit s
  | .tbStart => Sys2Proof.Machine.execTbStart s
  | .tbStop => Sys2Proof.Machine.execTbStop s
  | .tbClear => Sys2Proof.Machine.execTbClear s
  | .tbRead => Sys2Proof.Machine.execTbRead s
  | .bufClear => Sys2Proof.Machine.execBufClear s
  | .bufSetBrightness r c h => Sys2Proof.Machine.execBufSetBrightness r c h s
  | .bufRead r c h => Sys2Proof.Machine.execBufRead r c h s
  | .setScale => Sys2Proof.Machine.execSetScale s
  | .sweep => Sys2Proof.Machine.execSweep s

end Sys2Proof.Machine
end

