-- ==== Sys2Proof/WellFormed.lean ====
section
/-! DEFINITION. What the spec requires of the data the model takes as given.
An instruction needs no check here: its fields have the widths of R81 to R85 by their types, and R85 makes an
out-of-range index encodable on purpose. What is checked is the board's parameters (R10) and a cell's indices (R214). -/

namespace Sys2Proof

/-- `TB_WIDTH` is a width whose value TB_READ can zero-extend to 32 bits (R86, R196). -/
def Board.tbWidthOk (b : Board) : Bool := decide (1 ≤ b.tbWidth ∧ b.tbWidth ≤ 32)

/-- The status mask keeps bits 5:3, so that the three named codes are fixed points of masking (R103, D11). -/
def Board.statusMaskOk (b : Board) : Bool := b.statusMask &&& 0x38#8 == 0x38#8

/-- `COL_ORDER` visits every column: it is a permutation of `0 .. 8` (R10, R154). -/
def Board.colOrderOk (b : Board) : Bool := decide (∀ c : Fin 9, ∃ i : Fin 9, b.colOrder[i] = c)

/-- The board's parameters meet what R10 asks of them. -/
def Board.wf (b : Board) : Bool := b.tbWidthOk && b.statusMaskOk && b.colOrderOk

/-- The indices name a cell of the Brightness Buffer (R214). -/
def cellInRange (r c : BitVec 4) (h : BitVec 2) : Bool := decide (r ≤ 8 ∧ c ≤ 8 ∧ h ≤ 2)

end Sys2Proof
end

