-- ==== Sys2Proof/Decode.lean ====
section
/-! DEFINITION. Command words to commands and back (30_encoding.md R80 to R90). -/

namespace Sys2Proof

/-- Why a word names no command (R89). -/
inductive DecodeError where
  /-- `w[31:24]` is not an opcode of R87. -/
  | unassignedOpcode (opc : Byte)
  /-- A reserved field of the command's format is not zero. -/
  | reservedBits (w : Word)
  /-- Fewer than the four bytes of a command word were given. -/
  | shortWord
  deriving DecidableEq, Repr

/-- Bits 31:24 of every command word (R80). -/
def opcOf (w : Word) : Byte := w.extractLsb' 24 8

/-- Format N: bits 23:0 reserved (R81). -/
def decodeN (w : Word) (i : Instr) : Except DecodeError Instr :=
  if w.extractLsb' 0 24 = 0 then .ok i else .error (.reservedBits w)

/-- Format B: bits 23:8 reserved (R82). -/
def decodeB (w : Word) (mk : Byte → Instr) : Except DecodeError Instr :=
  if w.extractLsb' 8 16 = 0 then .ok (mk (w.extractLsb' 0 8)) else .error (.reservedBits w)

/-- Format RW: bit 23 reserved (R83). -/
def decodeRW (w : Word) (mk : ChipAddr → Byte → Byte → Instr) : Except DecodeError Instr :=
  if w.extractLsb' 23 1 = 0 then
    .ok (mk (w.extractLsb' 16 7) (w.extractLsb' 8 8) (w.extractLsb' 0 8))
  else .error (.reservedBits w)

/-- Format A: bits 23 and 15:0 reserved (R84). -/
def decodeA (w : Word) (mk : ChipAddr → Instr) : Except DecodeError Instr :=
  if w.extractLsb' 23 1 = 0 ∧ w.extractLsb' 0 16 = 0 then .ok (mk (w.extractLsb' 16 7))
  else .error (.reservedBits w)

/-- Format CELL: bits 23:12 and 3:2 reserved (R85). -/
def decodeCell (w : Word) (mk : BitVec 4 → BitVec 4 → BitVec 2 → Instr) : Except DecodeError Instr :=
  if w.extractLsb' 12 12 = 0 ∧ w.extractLsb' 2 2 = 0 then
    .ok (mk (w.extractLsb' 8 4) (w.extractLsb' 4 4) (w.extractLsb' 0 2))
  else .error (.reservedBits w)

/-- The command a word names, or why it names none (R87 to R89). -/
def decode (w : Word) : Except DecodeError Instr :=
  match (opcOf w).toNat with
  | 0x01 => decodeN w .bdInit
  | 0x02 => decodeN w .bdStart
  | 0x03 => decodeN w .bdStop
  | 0x04 => decodeB w .bdWrite
  | 0x05 => decodeN w .bdReadAck
  | 0x06 => decodeN w .bdReadNack
  | 0x07 => decodeN w .bdStatus
  | 0x10 => decodeRW w .rtWriteReg
  | 0x11 => decodeA w .chipInit
  | 0x20 => decodeN w .tbInit
  | 0x21 => decodeN w .tbStart
  | 0x22 => decodeN w .tbStop
  | 0x23 => decodeN w .tbClear
  | 0x24 => decodeN w .tbRead
  | 0x30 => decodeN w .bufClear
  | 0x31 => decodeCell w .bufSetBrightness
  | 0x32 => decodeCell w .bufRead
  | 0x33 => decodeN w .setScale
  | 0x40 => decodeN w .sweep
  | _ => .error (.unassignedOpcode (opcOf w))

/-- A word from its bytes, the byte at the lowest address holding bits 7:0 (R63). -/
def wordOfBytes (b0 b1 b2 b3 : Byte) : Word := b3 ++ b2 ++ b1 ++ b0

/-- The bytes of a word, lowest address first (R63). -/
def bytesOfWord (w : Word) : List Byte :=
  [w.extractLsb' 0 8, w.extractLsb' 8 8, w.extractLsb' 16 8, w.extractLsb' 24 8]

/-- The command at the front of a byte sequence, with the bytes after it (R63, R80: every command is four bytes). -/
def decodeBytes : List Byte → Except DecodeError (Instr × List Byte)
  | b0 :: b1 :: b2 :: b3 :: rest =>
    match decode (wordOfBytes b0 b1 b2 b3) with
    | .ok i => .ok (i, rest)
    | .error e => .error e
  | _ => .error .shortWord

/-- The opcode of a command (R87). -/
def Instr.opc : Instr → Byte
  | .bdInit => 0x01
  | .bdStart => 0x02
  | .bdStop => 0x03
  | .bdWrite _ => 0x04
  | .bdReadAck => 0x05
  | .bdReadNack => 0x06
  | .bdStatus => 0x07
  | .rtWriteReg _ _ _ => 0x10
  | .chipInit _ => 0x11
  | .tbInit => 0x20
  | .tbStart => 0x21
  | .tbStop => 0x22
  | .tbClear => 0x23
  | .tbRead => 0x24
  | .bufClear => 0x30
  | .bufSetBrightness _ _ _ => 0x31
  | .bufRead _ _ _ => 0x32
  | .setScale => 0x33
  | .sweep => 0x40

/-- Bits 23:0 of a command's word, by its format (R81 to R85). -/
def Instr.operandBits : Instr → BitVec 24
  | .bdWrite b => 0#16 ++ b
  | .rtWriteReg a g v => 0#1 ++ a ++ g ++ v
  | .chipInit a => 0#1 ++ a ++ 0#16
  | .bufSetBrightness r c h => 0#12 ++ r ++ c ++ 0#2 ++ h
  | .bufRead r c h => 0#12 ++ r ++ c ++ 0#2 ++ h
  | .bdInit | .bdStart | .bdStop | .bdReadAck | .bdReadNack | .bdStatus
  | .tbInit | .tbStart | .tbStop | .tbClear | .tbRead
  | .bufClear | .setScale | .sweep => 0#24

/-- The command word of a command (R80 to R87). -/
def encode (i : Instr) : Word := i.opc ++ i.operandBits

/-- The mask of a command's row (R88). -/
def Instr.rowMask : Instr → Word
  | .bdWrite _ => 0xFFFFFF00
  | .rtWriteReg _ _ _ => 0xFF800000
  | .chipInit _ => 0xFF80FFFF
  | .bufSetBrightness _ _ _ | .bufRead _ _ _ => 0xFFFFF00C
  | .bdInit | .bdStart | .bdStop | .bdReadAck | .bdReadNack | .bdStatus
  | .tbInit | .tbStart | .tbStop | .tbClear | .tbRead
  | .bufClear | .setScale | .sweep => 0xFFFFFFFF

/-- The match of a command's row: `OPC << 24` in every format (R88). -/
def Instr.rowMatch (i : Instr) : Word := i.opc ++ 0#24

/-- The instruction the decoder reads from an instruction whose bits are `w`, numbered as spec/opcode_table.json
numbers them; a bit at or above `nbits` is zero. The word goes to the decoder as its four bytes (R63). -/
def decodeTableWord (nbits w : Nat) : Option Instr :=
  match decodeBytes (bytesOfWord (BitVec.ofNat 32 (w % 2 ^ nbits))) with
  | .ok (i, _) => some i
  | .error _ => none

end Sys2Proof
end

