-- ==== Sys2Proof/Machine/HostPort.lean ====
section
/-! DEFINITION. The Host agent: accesses of the command port (R22, R61 to R64, R234, R235) and the operations of a Host
program (R91, R92, R244). -/

namespace Sys2Proof.Machine

/-- The four registers of the command port (R22). -/
inductive PortReg where
  | cmd
  | arg
  | result
  | csr
  deriving DecidableEq, Repr

/-- The register an access reaches: a 32-bit access at one of the four offsets, and nothing else (R61, R62; DEDUCED,
log 12, log 15). -/
def portReg (off : Int) (width : Nat) : Option PortReg :=
  if width ≠ 32 then none
  else if off = 0x0 then some .cmd
  else if off = 0x4 then some .arg
  else if off = 0x8 then some .result
  else if off = 0xC then some .csr
  else none

/-- The offset of an address of the Host's own map (R61). -/
def hostOffset (b : Board) (addr : Nat) : Int := (addr : Int) - b.lmcBase

/-- The access gives the Host no word. -/
def State.noData (s : State) : State := { s with hostData := none }

/-- A read gives the Host the word `w`. -/
def State.answer (s : State) (w : Word) : State := { s with hostData := some w }

/-- A Host write of CMD while `BUSY = 0`: the command starts (R24). -/
def State.startCommand (s : State) (w : Word) : State :=
  { s with cmd := w, busy := true, ctl := .start }

/-- A Host write of ARG while `BUSY = 0` (R64). -/
def State.storeArg (s : State) (w : Word) : State := { s with arg := w }

/-- `HostRead(off)` (R62, R64). -/
def State.hostRead (s : State) (off : Int) (width : Nat) : State :=
  match portReg off width with
  | some .arg => s.answer s.arg
  | some .result => if s.busy then s.drew.answer (Config.drawWord s.draws) else s.answer s.result
  | some .csr => s.answer s.csr
  | some .cmd | none => s.noData.raise .hostAccess

/-- A write that reached CMD or ARG: a faulted LMC ignores it, a busy one faults, an idle one performs it
(R24, R64, R234, R236; DEDUCED, log 13). -/
def State.portWrite (s : State) (perform : State → State) : State :=
  if s.fault = none then
    if s.busy then s.raise .hostProtocol else perform s
  else s

/-- `HostWrite(off, v)` (R62, R64). -/
def State.hostWrite (s : State) (off : Int) (width : Nat) (v : Word) : State :=
  match portReg off width with
  | some .cmd => s.noData.portWrite fun t => t.startCommand v
  | some .arg => s.noData.portWrite fun t => t.storeArg v
  | some .result | some .csr | none => s.noData.raise .hostAccess

/-- One Host access (R62 to R64). -/
def State.hostAccess (s : State) (a : HostAccess) : State :=
  match a with
  | .read off width => s.hostRead off width
  | .write off width v => s.hostWrite off width v

/-- The Host's read of CSR. -/
def readCsr : HostAccess := .read 0xC 32

/-- The Host's read of RESULT. -/
def readResult : HostAccess := .read 0x8 32

/-- The Host's write of CMD. -/
def writeCmd (w : Word) : HostAccess := .write 0x0 32 w

/-- The Host's write of ARG. -/
def writeArg (w : Word) : HostAccess := .write 0x4 32 w

/-- A word-sized read at an address of the Host's map (R61). -/
def readAt (b : Board) (addr : Nat) : HostAccess := .read (hostOffset b addr) 32

/-- A word-sized write at an address of the Host's map (R61). -/
def writeAt (b : Board) (addr : Nat) (w : Word) : HostAccess := .write (hostOffset b addr) 32 w

/-- ARG for a decimal operand whose value times 65536 is the integer `n` (R91). -/
def argOfScaled (n : Int) : Word := BitVec.ofInt 32 n

/-- One line of a Host program in the spec's assembly syntax (R91), or one pseudo-operation (R92). -/
inductive AsmLine where
  /-- A command's own line. -/
  | command (i : Instr)
  /-- `ARG x`. -/
  | arg (x : Word)
  /-- `WAIT`. -/
  | wait
  /-- `READ RESULT`. -/
  | readResult
  /-- `READ CSR`. -/
  | readCsr
  /-- `SETB r, c, h, v`. -/
  | setB (r c : BitVec 4) (h : BitVec 2) (v : Word)
  /-- `SCALE s`. -/
  | scale (s : Word)
  /-- `SWEEPMS p`. -/
  | sweepMs (p : Word)
  /-- `WREG a, g, v`. -/
  | wreg (a : ChipAddr) (g v : Byte)
  /-- `WREG_RETRY a, g, v`. -/
  | wregRetry (a : ChipAddr) (g v : Byte)
  deriving DecidableEq, Repr

/-- One pass of the `WREG_RETRY` loop (R92). -/
def retryLoop (a : ChipAddr) (g v : Byte) : List HostOp :=
  [.access (writeCmd (encode (.rtWriteReg a g v))), .wait, .retryUnlessOk a g v]

/-- The Host operations a line stands for (R91, R92). -/
def AsmLine.expand : AsmLine → List HostOp
  | .command i => [.access (writeCmd (encode i))]
  | .arg x => [.access (writeArg x)]
  | .wait => [.wait]
  | .readResult => [.access Sys2Proof.Machine.readResult]
  | .readCsr => [.access Sys2Proof.Machine.readCsr]
  | .setB r c h v => [.access (writeArg v), .access (writeCmd (encode (.bufSetBrightness r c h))), .wait]
  | .scale s => [.access (writeArg s), .access (writeCmd (encode .setScale)), .wait]
  | .sweepMs p => [.access (writeArg p), .access (writeCmd (encode .sweep)), .wait]
  | .wreg a g v => [.access (writeCmd (encode (.rtWriteReg a g v))), .wait]
  | .wregRetry a g v => retryLoop a g v

/-- The Host operations of a program. -/
def assemble (p : List AsmLine) : List HostOp := p.flatMap AsmLine.expand

/-- The Host program from here on. -/
def State.setProg (s : State) (p : List HostOp) : State := { s with hostProg := p }

/-- The Host performs the next operation of its program: `WAIT` stays where it is until a read of CSR shows
`BUSY = 0` (R91, R244), and `WREG_RETRY` goes round again unless the read shows RESP OK (R92; DEDUCED, log 21). -/
def State.hostProgramStep (s : State) : State :=
  match s.hostProg with
  | [] => s
  | .access a :: rest => (s.setProg rest).hostAccess a
  | .wait :: rest => (if csrBusy s.csr then s else s.setProg rest).hostAccess readCsr
  | .retryUnlessOk a g v :: rest =>
    (if csrResp s.csr = Resp.ok.code then s.setProg rest else s.setProg (retryLoop a g v ++ rest)).hostAccess
      readCsr

end Sys2Proof.Machine
end

