-- ==== Sys2Proof/Machine/Agents.lean ====
section
/-! DEFINITION. One step of each agent (R8, R71, R241): Host, Controller, BusPeer, Tick, and power-on. -/

namespace Sys2Proof.Machine

/-- What the command that asked for a register write does with its outcome. -/
def State.endTxn (s : State) (who : Caller) (e : TxnEnd) : State :=
  match who with
  | .writeReg => s.endWriteReg e
  | .chipInit a idx => s.endInitWrite a idx e
  | .sweep se => s.endScanWrite se e

/-- The Controller from a wait point whose phase is complete to its next wait or its response (R21, R102; DEDUCED, log 24). -/
def State.resume (s : State) (w : Wait) : State :=
  match w with
  | .respondZero => s.respond .ok 0
  | .respondByte => s.readRxd.2.respond .ok (s.readRxd.1.setWidth 32)
  | .txn t who => s.checkPhase t who fun e u => u.endTxn who e

/-- The command the Controller fetches: the one whose word CMD holds (R24, R77). -/
def State.fetch (s : State) : Except DecodeError Instr := decode s.cmd

/-- The answer to a word that names no command (R89, R233). -/
def State.illegal (s : State) : State := s.respond .illegalCommand 0

/-- The Controller's step: none while faulted, idle or waiting (R102, R236); from the start of a command, that command
(R24) or ILLEGAL_COMMAND (R89); from a completed wait, what follows it. -/
def State.controllerStep (s : State) : Host.Outcome State Fault Refusal :=
  match s.fault, s.ctl with
  | some _, _ => .next s
  | none, .idle => .next s
  | none, .start =>
    match s.fetch with
    | .ok i => exec i s
    | .error _ => .next s.illegal
  | none, .waitBus w =>
    match s.bdPend with
    | .none => .next (s.resume w)
    | .start | .write _ | .read _ => .next s

/-- The BusPeer's step, enabled when a phase is pending and the LMC is not faulted (R102, R236). -/
def State.busPeerStep (s : State) (raw rx : Byte) : State :=
  if s.bdPend ≠ .none ∧ s.fault = none then s.completePhase raw rx else s

/-- The Tick agent's step, enabled exactly when `TB_CFG = 1` and `TB_RUN = 1` (R190); a fault does not stop it (R236). -/
def State.tickStep (s : State) : State :=
  if s.tbCfg ∧ s.tbRun then s.countTick else s

/-- One turn. An agent that has no step leaves the state as it is: it holds (R12, R244). -/
def State.turn (s : State) (t : Turn) : Host.Outcome State Fault Refusal :=
  match t with
  | .host a => .next (s.hostAccess a)
  | .hostProgram => .next s.hostProgramStep
  | .controller => s.controllerStep
  | .busPeer raw rx => .next (s.busPeerStep raw rx)
  | .tick => .next s.tickStep
  | .powerOn => .next s.powerOn

/-- Whose turn it is: the first turn of `script`, or a free one when none is placed (R71, R191; DESIGN CHOICE, log 4). -/
def State.nextTurn (s : State) : Turn × State :=
  match s.script with
  | t :: ts => (t, { s with script := ts })
  | [] => (Config.freeTurn s.draws, s.drew)

/-- The command word a table row's bits stand for: a bit at or above `nbits` is zero. -/
def tableWord (nbits w : Nat) : Word := BitVec.ofNat 32 (w % 2 ^ nbits)

/-- The state in which CMD holds the word `w`, its command has started, and the next turn is the Controller's (DESIGN CHOICE, log 11). -/
def State.placeCommand (s : State) (w : Word) : State :=
  { s with cmd := w, busy := true, ctl := .start, fault := none, script := .controller :: s.script }

end Sys2Proof.Machine
end

