-- ==== Sys2Proof/Machine/Step.lean ====
section
/-! DEFINITION. One step of the LMC and its environment: the next turn is taken (R8, R71). -/

namespace Sys2Proof.Machine

/-- One step: the next turn's agent acts on the current state (R71, R241). -/
def step (s : State) : Host.Outcome State Fault Refusal :=
  s.nextTurn.2.turn s.nextTurn.1

/-- `s` with the command word of `w` stored in CMD and started, so that the next step runs it (R24; DESIGN CHOICE, log 11). -/
def State.withFetchWord (s : State) (nbits w : Nat) : State := s.placeCommand (tableWord nbits w)

end Sys2Proof.Machine
end

