-- ==== Sys2Proof/Safety.lean ====
section
/-! DEFINITION. What claims about runs are stated in: the invariant of the reachable states, runs and their fairness
(R191, R245), and the reference event lists of a register write (R130, R133) and of a pass (R150). -/

namespace Sys2Proof.Safety

open Sys2Proof.Machine

/-! ### The invariant -/

/-- The pending phase a wait point belongs to (R102, R104, R130). -/
def waitsFor : Wait → Pend → Bool
  | .respondZero, .start | .respondZero, .write _ => true
  | .respondByte, .read _ => true
  | .txn t _, p =>
    match t.ph with
    | .start => p == .start
    | .address => p == .write (slaw t.addr)
    | .register => p == .write t.reg
    | .data => p == .write t.val
  | _, _ => false

/-- The Scan Engine's registers, while it has any (R37). -/
def scanOf : Ctl → Option Scan
  | .waitBus (.txn _ (.sweep se)) => some se
  | .idle | .start | .waitBus _ => none

/-- What the register write in progress must be sending, by the command it belongs to (R134, R180, R155 to R157). -/
def txnMatches (s : State) : Ctl → Bool
  | .waitBus (.txn t (.chipInit a idx)) => t.addr == a && s.cfg.initSeq[idx]? == some (t.reg, t.val)
  | .waitBus (.txn t (.sweep se)) => (t.addr, t.reg, t.val) == s.scanWrite se.i se.r se.ch se.half
  | .idle | .start | .waitBus _ => true

/-- The value the last `EN := v` of a history left, `0` before the first (R38, R40). -/
def lastEn (l : List OutEvent) : Enables :=
  l.foldl (fun v e => match e with | .en w => w | .hb _ => v) 0

/-- The value the last `HB := v` of a history left, `false` before the first (R39, R40). -/
def lastHb (l : List OutEvent) : Bool :=
  l.foldl (fun v e => match e with | .hb w => w | .en _ => v) false

/-- What holds at reset and after every step. -/
structure LmcInv (s : State) : Prop where
  /-- `EN` is all off or one column (R38, R154). -/
  enLegal : enLegal s.en = true
  /-- BUSY is 1 exactly while a command is in progress (R23, R24). -/
  busyCtl : s.busy = true ↔ s.ctl ≠ .idle
  /-- A phase is pending only at the wait point it belongs to: the direction of R27 that holds between the BusPeer's
  completion and the Controller's next turn too (DESIGN CHOICE, log 25). -/
  pendWait : s.bdPend ≠ .none → ∃ w, s.ctl = .waitBus w ∧ waitsFor w s.bdPend = true
  /-- A completed phase has left its status (R102, R130). -/
  statKnown : ∀ w, s.ctl = .waitBus w → s.bdPend = .none → s.stat.isSome = true
  /-- A completed read phase has left its byte (R29, R102). -/
  rxdKnown : s.ctl = .waitBus .respondByte → s.bdPend = .none → s.rxd.isSome = true
  /-- `STAT` holds a masked value (R28, R103). -/
  statMasked : ∀ v, s.stat = some v → v &&& s.cfg.statusMask = v
  /-- The Controller waits for a phase only while the Bus Driver is enabled (R104). -/
  waitEnabled : ∀ w, s.ctl = .waitBus w → s.bdEn = true
  /-- `CNT` fits its width (R34). -/
  cntBound : s.cnt < 2 ^ s.cfg.tbWidth
  /-- While SWEEP runs the Time Base runs and the column of its position is the one lit (R151, R154). -/
  sweepOn : ∀ se, scanOf s.ctl = some se →
    s.tbCfg = true ∧ s.tbRun = true ∧ s.en = oneHot s.cfg.colOrder[se.i] ∧ se.base < 2 ^ s.cfg.tbWidth ∧
      se.period < 2 ^ s.cfg.tbWidth
  /-- While no SWEEP runs every column is off, unless a fault ended the sweep (R160, R236). -/
  sweepOff : s.fault = none → scanOf s.ctl = none → s.en = 0
  /-- The register write in progress is the one its command asks for (R156, R157, R180). -/
  txnOk : txnMatches s s.ctl = true
  /-- `OUT_TRACE` ends in the values the outputs hold (R40). -/
  outTail : lastEn s.outTrace = s.en ∧ lastHb s.outTrace = s.hb

/-! ### Runs -/

/-- An infinite run: each state steps to the next (R71). -/
def IsRun (r : Nat → State) : Prop := ∀ n, step (r n) = .next (r (n + 1))

/-- Weak fairness of the Tick agent (R191; DEDUCED, log 20): enabled from some point on, it steps again and again. -/
def TickFair (r : Nat → State) : Prop :=
  ∀ n, (∀ m, n ≤ m → (r m).tbCfg = true ∧ (r m).tbRun = true) → ∃ m, n ≤ m ∧ (r m).nextTurn.1 = .tick

/-- The premise "the BusPeer completes every phase" (R245): a phase that stays pending is some time completed. -/
def BusCompletes (r : Nat → State) : Prop :=
  ∀ n, (r n).bdPend ≠ .none → ∃ m, n ≤ m ∧ (r m).bdPend = .none

/-- The Controller is about to run command `i`: CMD holds its word, the LMC is not faulted, and the next turns are the
Controller's and then `ts` (R21, R24). -/
abbrev Starts (s : State) (i : Instr) (ts : List Turn) : Prop :=
  s.fault = none ∧ s.ctl = .start ∧ s.cmd = encode i ∧ s.script = .controller :: ts

/-- The status mask leaves the three codes of R132 as they are (R103; DESIGN CHOICE, log 23). -/
abbrev MaskKeepsCodes (s : State) : Prop :=
  0x08#8 &&& s.cfg.statusMask = 0x08 ∧ 0x18#8 &&& s.cfg.statusMask = 0x18 ∧ 0x28#8 &&& s.cfg.statusMask = 0x28

/-! ### Reference event lists -/

/-- The five events of a successful register write (R130). -/
def writeEvents (a : ChipAddr) (g v : Byte) : List BusEvent :=
  [.start, .byte (slaw a), .byte g, .byte v, .stop]

/-- The first phase of a register write whose masked status is not the expected one, with that status (R132). -/
def firstMismatch (mask : Byte) (raws : List Byte) : Option (Phase × Byte) :=
  (([.start, .address, .register, .data].zip (raws.map (· &&& mask))) : List (Phase × Byte)).find?
    fun p => p.2 != p.1.expected

/-- The turns in which the BusPeer completes the four phases of a register write with these raw statuses, the Controller
stepping after each. -/
def phaseTurns (raws : List Byte) : List Turn := raws.flatMap fun raw => [.busPeer raw 0, .controller]

/-- The turns of a register write that sees the four expected codes (R132). -/
def goodTurns : List Turn := phaseTurns [0x08, 0x18, 0x28, 0x28]

/-- The writes of one column: rows outer, channels inner, low byte before high byte (R155). -/
def columnWrites (s : State) (i : Fin 9) : List (ChipAddr × Byte × Byte) :=
  (List.finRange 9).flatMap fun r => (List.finRange 3).flatMap fun ch =>
    [s.scanWrite i r ch .low, s.scanWrite i r ch .high]

/-- The writes of one pass, columns in `COL_ORDER` (R154, R155). -/
def passWrites (s : State) : List (ChipAddr × Byte × Byte) := (List.finRange 9).flatMap (columnWrites s)

/-- The bus events of a pass whose every transaction succeeds (R163). -/
def passBusEvents (s : State) : List BusEvent := (passWrites s).flatMap fun w => writeEvents w.1 w.2.1 w.2.2

/-- The place of a half-cell transaction in the 486 of a pass: columns outermost, then rows, then channels, the low byte
before the high byte (R150, R155). -/
def scanPos (se : Scan) : Nat :=
  ((se.i.val * 9 + se.r.val) * 3 + se.ch.val) * 2 + match se.half with | .low => 0 | .high => 1

/-- The transaction of the half cell where a sweep stands, at its first phase (R155 to R157). -/
def scanTxnAt (s : State) (se : Scan) : Txn :=
  let w := s.scanWrite se.i se.r se.ch se.half
  { addr := w.1, reg := w.2.1, val := w.2.2, ph := .start }

/-- The failure count after a transaction that failed, or did not (R158). -/
def failsAfter (failed : Bool) (fails : Word) : Nat :=
  if failed then min (fails.toNat + 1) (2 ^ 32 - 1) else fails.toNat

/-- The Controller's turn is next, and the phase it waited for in the register write `t` of `who` is complete with
status `st`, on an enabled bus (R102, R130).
That the control point is then still the wait point is the model's choice (DESIGN CHOICE, log 25). -/
abbrev PhaseDone (s : State) (t : Txn) (who : Caller) (st : Byte) (ts : List Turn) : Prop :=
  s.fault = none ∧ s.script = .controller :: ts ∧ s.ctl = .waitBus (.txn t who) ∧ s.bdPend = .none ∧
    s.bdEn = true ∧ s.stat = some st

/-- The transaction is over at this phase: its status is not the expected one, or it was the last (R130). -/
abbrev TxnOver (t : Txn) (st : Byte) : Prop := st ≠ t.ph.expected ∨ t.ph = .data

/-- The output events of a pass: the heartbeat, then each column of `COL_ORDER` (R153, R154). -/
def passOutEvents (s : State) : List OutEvent :=
  .hb (!s.hb) :: (List.finRange 9).map fun i => .en (oneHot s.cfg.colOrder[i])

end Sys2Proof.Safety
end

