-- ==== Sys2Proof/Certificates/Slice0/Obligations.lean ====
section
/-! DEFINITION. The statements for the provers, from the numbered rules of spec/. -/

open Sys2Proof Sys2Proof.Machine Sys2Proof.Safety

/-! ### Encoding (30_encoding.md) -/

/-- Words written out from R81 to R87, and the reserved-bit and unassigned words of vectors EN1 to EN16. -/
def Obligations.SpecWordsDecode : Prop :=
  decodeTableWord 32 0x01000000 = some .bdInit ∧
  decodeTableWord 32 0x040000A5 = some (.bdWrite 0xA5) ∧
  decodeTableWord 32 0x107F1234 = some (.rtWriteReg 0x7F 0x12 0x34) ∧
  decodeTableWord 32 0x11400000 = some (.chipInit 0x40) ∧
  decodeTableWord 32 0x24000000 = some .tbRead ∧
  decodeTableWord 32 0x31000882 = some (.bufSetBrightness 8 8 2) ∧
  decodeTableWord 32 0x32000251 = some (.bufRead 2 5 1) ∧
  decodeTableWord 32 0x40000000 = some .sweep ∧
  decodeTableWord 32 0x00000000 = none ∧
  decodeTableWord 32 0xFF000000 = none ∧
  decodeTableWord 32 0x01000001 = none ∧
  decodeTableWord 32 0x04000100 = none ∧
  decodeTableWord 32 0x10FF0000 = none ∧
  decodeTableWord 32 0x11400001 = none ∧
  decodeTableWord 32 0x31000884 = none ∧
  decodeTableWord 32 0x31001000 = none

/-- Every command, with every operand its fields admit, decodes from its own word (R80 to R87). -/
def Obligations.DecodeOfEncode : Prop :=
  ∀ i : Instr, decode (encode i) = .ok i

/-- A word decodes to nothing but the command whose word it is: no bit of it is dropped (R80 to R89). -/
def Obligations.EncodeOfDecode : Prop :=
  ∀ (w : Word) (i : Instr), decode w = .ok i → encode i = w

/-- R88: the row whose OPC is `w[31:24]` is selected, a row's pattern holds exactly for its command's words, the masks
and matches are those of the rule, and no two rows overlap. -/
def Obligations.DecodeIsTheOpcodeTable : Prop :=
  (∀ (w : Word) (i : Instr), decode w = .ok i → opcOf w = i.opc ∧ w &&& i.rowMask = i.rowMatch) ∧
  (∀ (w : Word) (i : Instr), w &&& i.rowMask = i.rowMatch → ∃ j, decode w = .ok j ∧ j.opc = i.opc) ∧
  (∀ (w : Word) (i j : Instr), w &&& i.rowMask = i.rowMatch → w &&& j.rowMask = j.rowMatch → i.opc = j.opc) ∧
  (∀ i : Instr, i.rowMatch = i.opc.setWidth 32 <<< 24) ∧
  (∀ (a : ChipAddr) (b g v : Byte) (r c : BitVec 4) (h : BitVec 2),
    (Instr.bdWrite b).rowMask = 0xFFFFFF00 ∧ (Instr.rtWriteReg a g v).rowMask = 0xFF800000 ∧
    (Instr.chipInit a).rowMask = 0xFF80FFFF ∧ (Instr.bufSetBrightness r c h).rowMask = 0xFFFFF00C ∧
    (Instr.bufRead r c h).rowMask = 0xFFFFF00C) ∧
  (∀ i ∈ [Instr.bdInit, .bdStart, .bdStop, .bdReadAck, .bdReadNack, .bdStatus, .tbInit, .tbStart, .tbStop,
      .tbClear, .tbRead, .bufClear, .setScale, .sweep], i.rowMask = 0xFFFFFFFF)

/-- A word presented as bytes is taken little-endian (R63). -/
def Obligations.BytesDecodeLittleEndian : Prop :=
  ∀ (w : Word) (rest : List Byte),
    wordOfBytes (w.extractLsb' 0 8) (w.extractLsb' 8 8) (w.extractLsb' 16 8) (w.extractLsb' 24 8) = w ∧
    decodeBytes (bytesOfWord w ++ rest) = (decode w).map fun i => (i, rest)

/-- R89: a word that is no command's word answers ILLEGAL_COMMAND with RESULT 0 and changes nothing else. -/
def Obligations.IllegalWordAnswered : Prop :=
  ∀ (s : State) (ts : List Turn), s.fault = none → s.ctl = .start → s.script = .controller :: ts →
    (∀ i : Instr, encode i ≠ s.cmd) →
    step s = .next { s with result := 0, resp := .illegalCommand, busy := false, ctl := .idle, script := ts }

/-! ### The step and the command port (10_state.md, 20_memory.md, 60_exceptions.md) -/

/-- The Controller's turn at the start of a command runs the command CMD holds; `step` adds only the taking of the turn
(R21, R24).
That the turn taken is the first of `State.script` is the model's choice (log 4), and so is the placing of a word by
`withFetchWord`, of which the last clause says the same (log 11). -/
def Obligations.StepRunsDecodedCommand : Prop :=
  (∀ (s : State) (i : Instr) (ts : List Turn), s.fault = none → s.ctl = .start → s.script = .controller :: ts →
    decode s.cmd = .ok i → step s = exec i { s with script := ts }) ∧
  (∀ (s : State) (t : Turn) (ts : List Turn), s.script = t :: ts → step s = ({ s with script := ts }).turn t) ∧
  (∀ (s : State) (nbits w : Nat) (i : Instr), decodeTableWord nbits w = some i →
    step (s.withFetchWord nbits w) =
      exec i { s with cmd := tableWord nbits w, busy := true, ctl := .start, fault := none })

/-- Every step of every state answers a next state, whatever the turn.
That a fault is a next state whose `FAULT` holds its kind, so that no step answers `Host.Outcome.fault` or `refused`, is
the model's reading of R236 (log 18); that a turn of an agent with no step leaves the state as it is, is the model's choice
(log 4). -/
def Obligations.EveryStepAnswersNext : Prop :=
  (∀ (i : Instr) (s : State), ∃ t, exec i s = .next t) ∧ ∀ s : State, ∃ t, step s = .next t

/-- A Host write of CMD while idle starts the command; one of ARG stores the operand (R24, R64). -/
def Obligations.HostWritesTakeEffect : Prop :=
  ∀ (s : State) (w : Word) (ts : List Turn), s.fault = none → s.busy = false →
    (s.script = .host (.write 0x0 32 w) :: ts →
      step s = .next { s with cmd := w, busy := true, ctl := .start, hostData := none, script := ts }) ∧
    (s.script = .host (.write 0x4 32 w) :: ts →
      step s = .next { s with arg := w, hostData := none, script := ts })

/-- Host reads change nothing of the LMC; CSR and ARG read as they are, RESULT too while `BUSY = 0`, and while
`BUSY = 1` a read of RESULT gives a free value (R64), in the form the model chose (log 6).
That a faulted LMC's port answers so too is the model's choice (log 13). -/
def Obligations.HostReadsAnswer : Prop :=
  ∀ (s : State) (ts : List Turn),
    (s.script = .host (.read 0x4 32) :: ts → step s = .next { s with hostData := some s.arg, script := ts }) ∧
    (s.script = .host (.read 0xC 32) :: ts → step s = .next { s with hostData := some s.csr, script := ts }) ∧
    (s.script = .host (.read 0x8 32) :: ts → s.busy = false →
      step s = .next { s with hostData := some s.result, script := ts }) ∧
    (s.script = .host (.read 0x8 32) :: ts → s.busy = true →
      step s = .next
        { s with hostData := some (Config.drawWord s.draws), draws := s.draws + 1, script := ts })

/-- R234: a Host write of CMD or ARG while `BUSY = 1` faults HOST_PROTOCOL; BUSY stays 1 and the command's state stands. -/
def Obligations.WriteWhileBusyFaults : Prop :=
  ∀ (s : State) (off : Int) (w : Word) (ts : List Turn), s.fault = none → s.busy = true → off = 0x0 ∨ off = 0x4 →
    s.script = .host (.write off 32 w) :: ts →
    step s = .next { s with fault := some .hostProtocol, hostData := none, script := ts }

/-- A Host access of a bad offset, alignment or width, a write of RESULT or CSR and a read of CMD fault HOST_ACCESS
(R235).
That it is this fault and not HOST_PROTOCOL also for a write of CMD or ARG of a bad width while `BUSY = 1`, which R234 fits
as well, is the model's choice (log 12). -/
def Obligations.BadAccessFaults : Prop :=
  ∀ (s : State) (off : Int) (width : Nat) (w : Word) (ts : List Turn), s.fault = none →
    (s.script = .host (.read off width) :: ts → (width ≠ 32 ∨ off < 0 ∨ 0xF < off ∨ off % 4 ≠ 0 ∨ off = 0x0) →
      step s = .next { s with fault := some .hostAccess, hostData := none, script := ts }) ∧
    (s.script = .host (.write off width w) :: ts →
      (width ≠ 32 ∨ off < 0 ∨ 0xF < off ∨ off % 4 ≠ 0 ∨ off = 0x8 ∨ off = 0xC) →
      step s = .next { s with fault := some .hostAccess, hostData := none, script := ts })

/-- R23 and R25: the fields of CSR and the response codes. -/
def Obligations.CsrFields : Prop :=
  (∀ s : State, s.csr.getLsbD 0 = s.busy ∧ s.csr.extractLsb' 1 2 = s.resp.code ∧ s.csr.extractLsb' 3 29 = 0) ∧
  Resp.ok.code = 0 ∧ Resp.busFailure.code = 1 ∧ Resp.inputError.code = 2 ∧ Resp.illegalCommand.code = 3

/-- R244: a Host at `WAIT` stays there exactly while CSR shows `BUSY = 1`, and the poll changes nothing of the LMC.
The retry loop of R92 goes round while RESP is not OK.
An access of the program is the Host's access, and a program at its end does nothing (R91).
That an access, a poll, and a poll with its branch, is one turn is the model's choice (log 21), and so are what a faulted
LMC's port answers (log 13) and the turn of a Host with nothing to do (log 4). -/
def Obligations.HostPollsUntilDone : Prop :=
  ∀ (s : State) (rest : List HostOp) (ts : List Turn), s.script = .hostProgram :: ts →
    (s.hostProg = .wait :: rest →
      step s = .next { s with
        hostProg := if s.busy then .wait :: rest else rest, hostData := some s.csr, script := ts }) ∧
    (∀ (a : ChipAddr) (g v : Byte), s.hostProg = .retryUnlessOk a g v :: rest →
      step s = .next { s with
        hostProg := if s.resp = .ok then rest
          else .access (.write 0x0 32 (encode (.rtWriteReg a g v))) :: .wait :: .retryUnlessOk a g v :: rest
        hostData := some s.csr
        script := ts }) ∧
    (∀ a, s.hostProg = .access a :: rest → step s = step { s with hostProg := rest, script := .host a :: ts }) ∧
    (s.hostProg = [] → step s = .next { s with script := ts })

/-- R236: in the faulted state nothing of the LMC changes but `CNT` on a tick, until power-on. -/
def Obligations.FaultedLmcIsFrozen : Prop :=
  ∀ (s s' : State) (k : Fault), s.fault = some k → s.nextTurn.1 ≠ .powerOn → step s = .next s' →
    s' = { s with
      cnt := s'.cnt, hostProg := s'.hostProg, hostData := s'.hostData, script := s'.script, draws := s'.draws } ∧
    (s.nextTurn.1 ≠ .tick → s'.cnt = s.cnt) ∧
    (s.nextTurn.1 = .tick → s.tbCfg = true → s.tbRun = true → s'.cnt = (s.cnt + 1) % 2 ^ s.cfg.tbWidth) ∧
    (s.nextTurn.1 = .tick → s.tbCfg = false ∨ s.tbRun = false → s'.cnt = s.cnt)

/-- R41: `FAULT` is NONE at reset and, once set, keeps its kind through every step but power-on. -/
def Obligations.FaultIsSticky : Prop :=
  State.reset.fault = none ∧ ∀ (s s' : State) (k : Fault), s.fault = some k → s.nextTurn.1 ≠ .powerOn → step s = .next s' →
    s'.fault = some k

/-! ### BusPeer and Tick (40_bus_driver.md, 44_time_base.md) -/

/-- R102: the BusPeer's one step, when it is enabled, and the Controller's hold meanwhile; at IDLE the Controller has no
step either (R21, R24).
That a turn of an agent with no step takes the turn and changes nothing else is the model's choice (log 4), and so is that CTL keeps its wait point at the completion (log 25). -/
def Obligations.BusPeerCompletesPhase : Prop :=
  ∀ (s : State) (raw rx : Byte) (ts : List Turn),
    (s.script = .busPeer raw rx :: ts → s.fault = none → s.bdPend ≠ .none →
      step s = .next { s with
        stat := some (raw &&& s.cfg.statusMask)
        rxd := if s.bdPend = .read true ∨ s.bdPend = .read false then some rx else s.rxd
        bdPend := .none
        script := ts }) ∧
    (s.script = .busPeer raw rx :: ts → s.fault ≠ none ∨ s.bdPend = .none → step s = .next { s with script := ts }) ∧
    (∀ w, s.script = .controller :: ts → s.ctl = .waitBus w → s.bdPend ≠ .none → step s = .next { s with script := ts }) ∧
    (s.script = .controller :: ts → s.ctl = .idle → step s = .next { s with script := ts })

/-- R190 and R197: a tick adds one, modulo the width, exactly while `TB_CFG` and `TB_RUN` are set, and nothing else. -/
def Obligations.TickCounts : Prop :=
  ∀ (s : State) (ts : List Turn), s.script = .tick :: ts →
    (s.tbCfg = true → s.tbRun = true →
      step s = .next { s with cnt := (s.cnt + 1) % 2 ^ s.cfg.tbWidth, script := ts }) ∧
    (s.tbCfg = true → s.tbRun = true → s.cnt = 2 ^ s.cfg.tbWidth - 1 →
      step s = .next { s with cnt := 0, script := ts }) ∧
    (s.tbCfg = false ∨ s.tbRun = false → step s = .next { s with script := ts })

/-- R198: `CNT` rises only by a tick, by one; it falls only at a wrap, at TB_CLEAR, at a sweep's exit and at power-on. -/
def Obligations.CounterChangesOnly : Prop :=
  ∀ s s' : State, step s = .next s' →
    (s.cnt < s'.cnt →
      s.nextTurn.1 = .tick ∧ s.tbCfg = true ∧ s.tbRun = true ∧ s'.cnt = s.cnt + 1) ∧
    (s'.cnt < s.cnt →
      (s.nextTurn.1 = .tick ∧ s.tbCfg = true ∧ s.tbRun = true ∧ 2 ^ s.cfg.tbWidth ≤ s.cnt + 1) ∨
      (s'.cnt = 0 ∧ s.nextTurn.1 = .controller ∧ s.ctl = .start ∧ decode s.cmd = .ok .tbClear) ∨
      (s'.cnt = 0 ∧ s.nextTurn.1 = .controller ∧ (∃ se, scanOf s.ctl = some se) ∧ s'.ctl = .idle) ∨
      (s'.cnt = 0 ∧ s.nextTurn.1 = .powerOn))

/-! ### Bus Driver commands -/

/-- R105: BD_INIT enables the Bus Driver, puts nothing on the bus, and may be repeated. -/
def Obligations.BdInitEnables : Prop :=
  encode .bdInit = 0x01000000 ∧ ∀ s : State, ∃ t, exec .bdInit s = .next t ∧
    t = { s with bdEn := true, result := 0, resp := .ok, busy := false, ctl := .idle } ∧
    exec .bdInit t = .next t

/-- R106: BD_START issues a START, waits for its completion and answers OK whatever status it got. -/
def Obligations.BdStartRuns : Prop :=
  ∀ (s : State) (raw rx : Byte) (ts : List Turn),
    (s.bdEn = true → exec .bdStart s = .next
      { s with busTrace := s.busTrace ++ [.start], bdPend := .start, ctl := .waitBus .respondZero }) ∧
    (s.bdEn = true → Starts s .bdStart (.busPeer raw rx :: .controller :: ts) →
      Host.Core.run core 3 s = .next { s with
        busTrace := s.busTrace ++ [.start], stat := some (raw &&& s.cfg.statusMask), bdPend := .none
        result := 0, resp := .ok, busy := false, ctl := .idle, script := ts }) ∧
    (s.bdEn = false → s.fault = none → exec .bdStart s = .next { s with fault := some .busNotEnabled })

/-- R107: BD_STOP emits a STOP, makes the status UNKNOWN and answers in the same step, without a wait. -/
def Obligations.BdStopDoesNotWait : Prop :=
  encode .bdStop = 0x03000000 ∧ ∀ s : State,
    (s.bdEn = true → exec .bdStop s = .next { s with
      busTrace := s.busTrace ++ [.stop], stat := none, result := 0, resp := .ok, busy := false, ctl := .idle }) ∧
    (s.bdEn = false → s.fault = none → exec .bdStop s = .next { s with fault := some .busNotEnabled })

/-- R108: BD_WRITE sends any byte unchanged, waits for its completion and answers OK without a check of the status. -/
def Obligations.BdWriteRuns : Prop :=
  ∀ (s : State) (b raw rx : Byte) (ts : List Turn),
    (s.bdEn = true → exec (.bdWrite b) s = .next
      { s with busTrace := s.busTrace ++ [.byte b], bdPend := .write b, ctl := .waitBus .respondZero }) ∧
    (s.bdEn = true → Starts s (.bdWrite b) (.busPeer raw rx :: .controller :: ts) →
      Host.Core.run core 3 s = .next { s with
        busTrace := s.busTrace ++ [.byte b], stat := some (raw &&& s.cfg.statusMask), bdPend := .none
        result := 0, resp := .ok, busy := false, ctl := .idle, script := ts }) ∧
    (s.bdEn = false → s.fault = none → exec (.bdWrite b) s = .next { s with fault := some .busNotEnabled })

/-- R109 and R110: the two read commands issue a read phase with ACK or NACK and answer the byte the peer sent, in bits
7:0 of RESULT. -/
def Obligations.BdReadsRun : Prop :=
  ∀ (s : State) (i : Instr) (ack : Bool) (raw rx : Byte) (ts : List Turn),
    (i = .bdReadAck ∧ ack = true) ∨ (i = .bdReadNack ∧ ack = false) →
    (s.bdEn = true → exec i s = .next
      { s with busTrace := s.busTrace ++ [.read ack], bdPend := .read ack, ctl := .waitBus .respondByte }) ∧
    (s.bdEn = true → Starts s i (.busPeer raw rx :: .controller :: ts) →
      Host.Core.run core 3 s = .next { s with
        busTrace := s.busTrace ++ [.read ack], stat := some (raw &&& s.cfg.statusMask), rxd := some rx
        bdPend := .none, result := 0#24 ++ rx, resp := .ok, busy := false, ctl := .idle, script := ts }) ∧
    (s.bdEn = false → s.fault = none → exec i s = .next { s with fault := some .busNotEnabled })

/-- R111: BD_STATUS answers the status of the last completed phase, or a fresh free value AND the mask while it is
UNKNOWN, with no side effect and no need of the enable.
That the free value is `Config.drawByte` of the draw counter is the model's choice (log 5). -/
def Obligations.BdStatusReads : Prop :=
  encode .bdStatus = 0x07000000 ∧ ∀ s : State,
    (∀ v, s.stat = some v → exec .bdStatus s = .next
      { s with result := 0#24 ++ v, resp := .ok, busy := false, ctl := .idle }) ∧
    (s.stat = none → exec .bdStatus s = .next { s with
      result := 0#24 ++ (Config.drawByte s.draws &&& s.cfg.statusMask), draws := s.draws + 1
      resp := .ok, busy := false, ctl := .idle })

/-- R237: each of the eight commands that use the bus faults BUS_NOT_ENABLED while `BD_EN = 0`, with no bus event and
no response; SWEEP does so after its first HB and EN changes. -/
def Obligations.BusNotEnabledFault : Prop :=
  ∀ s : State, s.bdEn = false → s.fault = none →
    (∀ (a : ChipAddr) (b g v : Byte) (i : Instr),
      i ∈ [.bdStart, .bdStop, .bdWrite b, .bdReadAck, .bdReadNack, .rtWriteReg a g v] →
      exec i s = .next { s with fault := some .busNotEnabled }) ∧
    (∀ a : ChipAddr, s.cfg.initSeq ≠ [] → exec (.chipInit a) s = .next { s with fault := some .busNotEnabled }) ∧
    (s.tbCfg = true → s.arg.toNat < 2 ^ s.cfg.tbWidth → exec .sweep s = .next { s with
      tbRun := true, hb := !s.hb, en := oneHot s.cfg.colOrder[0]
      outTrace := s.outTrace ++ [.hb (!s.hb), .en (oneHot s.cfg.colOrder[0])]
      fault := some .busNotEnabled })

/-! ### Register Transaction Sequencer (41_register_transaction.md) -/

/-- R131: the address byte is the chip address shifted left by one, with the R/W bit 0; it ranges over the even bytes. -/
def Obligations.AddressByteIsShifted : Prop :=
  (∀ a : ChipAddr, (slaw a).toNat = 2 * a.toNat ∧ (slaw a).getLsbD 0 = false ∧ (slaw a).extractLsb' 1 7 = a) ∧
  ∀ b : Byte, b.toNat % 2 = 0 → ∃ a, slaw a = b

/-- RT_WRITE_REG begins with a START and waits for it, its operands held (R130, R134). -/
def Obligations.RtWriteRegBeginsWithStart : Prop :=
  ∀ (s : State) (a : ChipAddr) (g v : Byte), s.bdEn = true →
    exec (.rtWriteReg a g v) s = .next { s with
      busTrace := s.busTrace ++ [.start], bdPend := .start
      ctl := .waitBus (.txn { addr := a, reg := g, val := v, ph := .start } .writeReg) }

/-- R130 and R133: a register write against any four raw statuses.
If every masked status is the expected one, the five events are emitted and the answer is OK.
If the first mismatch is at phase `k`, exactly the first `k` events are emitted and no STOP, `STAT` holds the
mismatching code, and the answer is BUS_FAILURE with `k << 8 | code`. -/
def Obligations.RegisterWriteRuns : Prop :=
  ∀ (s : State) (a : ChipAddr) (g v r1 r2 r3 r4 : Byte) (ts : List Turn), s.bdEn = true →
    Starts s (.rtWriteReg a g v) (phaseTurns [r1, r2, r3, r4] ++ ts) →
    match firstMismatch s.cfg.statusMask [r1, r2, r3, r4] with
    | none => Host.Core.run core 9 s = .next { s with
        busTrace := s.busTrace ++ writeEvents a g v, stat := none, bdPend := .none
        result := 0, resp := .ok, busy := false, ctl := .idle, script := ts }
    | some (p, code) => Host.Core.run core (1 + 2 * p.number.toNat) s = .next { s with
        busTrace := s.busTrace ++ (writeEvents a g v).take p.number.toNat, stat := some code, bdPend := .none
        result := BitVec.ofNat 32 (p.number.toNat * 256 + code.toNat), resp := .busFailure, busy := false
        ctl := .idle, script := s.script.drop (1 + 2 * p.number.toNat) }

/-- R231: BUS_FAILURE is answered by RT_WRITE_REG alone, at a status mismatch, with `ph << 8 | st`: whether RESP takes
the code or an earlier answer had left it there. -/
def Obligations.BusFailureOnlyFromRegisterWrite : Prop :=
  ∀ s s' : State, step s = .next s' → s'.resp = .busFailure →
    s.resp ≠ .busFailure ∨ (s.busy = true ∧ s'.busy = false) →
    ∃ t, s.nextTurn.1 = .controller ∧ s.ctl = .waitBus (.txn t .writeReg) ∧
      ∀ st, s.stat = some st → st ≠ t.ph.expected ∧
        s'.result = BitVec.ofNat 32 (t.ph.number.toNat * 256 + st.toNat)

/-! ### Chip Initialization Sequencer (43_chip_init.md) -/

/-- CHIP_INIT begins the first write of `INIT_SEQ`, or answers OK at once when the sequence is empty, also while
`BD_EN = 0` (R180, vector CI4). -/
def Obligations.ChipInitBegins : Prop :=
  ∀ (s : State) (a : ChipAddr),
    (s.cfg.initSeq = [] →
      exec (.chipInit a) s = .next { s with result := 0, resp := .ok, busy := false, ctl := .idle }) ∧
    (∀ g v rest, s.cfg.initSeq = (g, v) :: rest → s.bdEn = true → exec (.chipInit a) s = .next { s with
      busTrace := s.busTrace ++ [.start], bdPend := .start
      ctl := .waitBus (.txn { addr := a, reg := g, val := v, ph := .start } (.chipInit a 0)) })

/-- A failed attempt is retried at once from START, with no STOP, no count and no limit (R181).
The completed phase's wait point still in CTL is the model's choice (log 25). -/
def Obligations.ChipInitRetriesAtOnce : Prop :=
  ∀ (s : State) (t : Txn) (a : ChipAddr) (idx : Nat) (g v st : Byte) (ts : List Turn),
    s.fault = none → s.script = .controller :: ts → s.ctl = .waitBus (.txn t (.chipInit a idx)) → s.bdPend = .none →
    s.bdEn = true → s.stat = some st → st ≠ t.ph.expected → s.cfg.initSeq[idx]? = some (g, v) →
    step s = .next { s with
      busTrace := s.busTrace ++ [.start], bdPend := .start
      ctl := .waitBus (.txn { addr := a, reg := g, val := v, ph := .start } (.chipInit a idx)), script := ts }

/-- With the expected statuses CHIP_INIT writes the whole of `INIT_SEQ` in list order, one full transaction each, and
answers OK (R180, vector CI6). -/
def Obligations.ChipInitWritesSequence : Prop :=
  ∀ (s : State) (a : ChipAddr) (ts : List Turn), s.bdEn = true → MaskKeepsCodes s →
    Starts s (.chipInit a) ((s.cfg.initSeq.flatMap fun _ => goodTurns) ++ ts) →
    Host.Core.run core (1 + 8 * s.cfg.initSeq.length) s = .next { s with
      busTrace := s.busTrace ++ s.cfg.initSeq.flatMap fun w => writeEvents a w.1 w.2
      stat := if s.cfg.initSeq = [] then s.stat else none
      bdPend := if s.cfg.initSeq = [] then s.bdPend else .none
      result := 0, resp := .ok, busy := false, ctl := .idle, script := ts }

/-! ### Scan Engine (42_scan_engine.md) -/

/-- SWEEP's entry step: the Time Base runs, the baseline is `CNT`, the heartbeat toggles, the first column is lit, and
its first low-byte transaction begins (R151, R153 to R157).
The second clause says what the transaction of every place of a pass writes: the low byte of the cell's duty to `offL` and
the high byte to `offH`, of the chip that `ROWMAP` gives for the row and the channel (R68, R155 to R157). -/
def Obligations.SweepBegins : Prop :=
  (∀ s : State, s.bdEn = true → s.tbCfg = true → s.arg.toNat < 2 ^ s.cfg.tbWidth →
    exec .sweep s = .next { s with
      tbRun := true, hb := !s.hb, en := oneHot s.cfg.colOrder[0]
      outTrace := s.outTrace ++ [.hb (!s.hb), .en (oneHot s.cfg.colOrder[0])]
      busTrace := s.busTrace ++ [.start], bdPend := .start
      ctl := .waitBus (.txn
        { addr := s.cfg.chipAddr[s.cfg.rowmap[0][0].sel], reg := s.cfg.rowmap[0][0].offL
          val := (s.cell 0 0 s.cfg.colOrder[0]).extractLsb' 0 8, ph := .start }
        (.sweep { base := s.cnt, period := s.arg.toNat, i := 0, r := 0, ch := 0, half := .low, fails := 0 })) }) ∧
  ∀ (s : State) (i r : Fin 9) (ch : Fin 3),
    ∃ lo hi : Byte, lo.toNat = (s.cell ch r s.cfg.colOrder[i]).toNat % 256 ∧
      hi.toNat = (s.cell ch r s.cfg.colOrder[i]).toNat / 256 ∧
      s.scanWrite i r ch .low = (s.cfg.chipAddr[s.cfg.rowmap[r][ch].sel], s.cfg.rowmap[r][ch].offL, lo) ∧
      s.scanWrite i r ch .high = (s.cfg.chipAddr[s.cfg.rowmap[r][ch].sel], s.cfg.rowmap[r][ch].offH, hi)

/-- A period wider than the Time Base answers INPUT_ERROR before anything else, and so before the fault of R238
(R150, R232, R239). -/
def Obligations.SweepRejectsWidePeriod : Prop :=
  ∀ s : State, 2 ^ s.cfg.tbWidth ≤ s.arg.toNat →
    exec .sweep s = .next { s with result := 0, resp := .inputError, busy := false, ctl := .idle }

/-- R238: TB_START and SWEEP fault TB_NOT_CONFIGURED while `TB_CFG = 0`, with no other change. -/
def Obligations.TimeBaseNotConfiguredFault : Prop :=
  ∀ s : State, s.tbCfg = false → s.fault = none →
    exec .tbStart s = .next { s with fault := some .tbNotConfigured } ∧
    (s.arg.toNat < 2 ^ s.cfg.tbWidth → exec .sweep s = .next { s with fault := some .tbNotConfigured })

/-- A sweep of period 0 with the expected statuses and no tick makes exactly one pass: its 486 transactions in order,
one heartbeat, each column once, and then everything off (R150, R154 to R157, R160, R162, R163). -/
def Obligations.SweepMakesOnePass : Prop :=
  ∀ (s : State) (ts : List Turn), s.bdEn = true → s.tbCfg = true → s.arg = 0 → MaskKeepsCodes s →
    Starts s .sweep ((List.replicate 486 goodTurns).flatten ++ ts) →
    Host.Core.run core (1 + 8 * 486) s = .next { s with
      busTrace := s.busTrace ++ passBusEvents s
      outTrace := s.outTrace ++ passOutEvents s ++ [.en 0]
      hb := !s.hb, en := 0, tbRun := false, cnt := 0, stat := none, bdPend := .none
      result := 0, resp := .ok, busy := false, ctl := .idle, script := ts }

/-- R163: the sweep of one successful pass appends 2430 bus events, of which 486 are STARTs and 486 STOPs, and ten output
events, the heartbeat and nine column selects, before the `EN := 0` of its exit. -/
def Obligations.PassCounts : Prop :=
  ∀ (s : State) (ts : List Turn), s.bdEn = true → s.tbCfg = true → s.arg = 0 → MaskKeepsCodes s →
    Starts s .sweep ((List.replicate 486 goodTurns).flatten ++ ts) →
    ∃ (t : State) (es : List BusEvent) (ens : List Enables), Host.Core.run core (1 + 8 * 486) s = .next t ∧
      t.busTrace = s.busTrace ++ es ∧ es.length = 2430 ∧ es.count .start = 486 ∧ es.count .stop = 486 ∧
      t.outTrace = s.outTrace ++ .hb (!s.hb) :: ens.map OutEvent.en ++ [.en 0] ∧ ens.length = 9

/-- The end of a transaction in a sweep that is not the last of its pass, at any of its phases.
A failed one is counted, saturating, and not retried, and emits no STOP; a successful one emits its STOP and is not
counted (R158, R252).
The next transaction begins at once with a START: within the column, or, after the column's last, in the next column of
`COL_ORDER`, which is lit first (R154, R155).
The completed phase's wait point still in CTL is the model's choice (log 25). -/
def Obligations.SweepCountsFailure : Prop :=
  ∀ (s : State) (t : Txn) (se se' : Scan) (st : Byte) (ts : List Turn),
    PhaseDone s t (.sweep se) st ts → TxnOver t st → scanPos se' = scanPos se + 1 →
    se'.base = se.base → se'.period = se.period → se'.fails.toNat = failsAfter (st != t.ph.expected) se.fails →
    step s = .next { s with
      busTrace := s.busTrace ++ if st = t.ph.expected then [.stop, .start] else [.start]
      stat := if st = t.ph.expected then none else some st
      bdPend := .start
      en := if se'.i = se.i then s.en else oneHot s.cfg.colOrder[se'.i]
      outTrace := s.outTrace ++ if se'.i = se.i then [] else [.en (oneHot s.cfg.colOrder[se'.i])]
      ctl := .waitBus (.txn (scanTxnAt s se') (.sweep se'))
      script := ts }

/-- The loop test, in the step that ends the pass's last transaction, which succeeds or fails at any of its phases and is
counted if it fails: elapsed ticks below the period start another pass with a fresh heartbeat; otherwise the Time Base
stops and clears, every column goes off and the failure count is answered (R153, R154, R158 to R160).
The completed phase's wait point still in CTL is the model's choice (log 25). -/
def Obligations.SweepTestsAfterPass : Prop :=
  ∀ (s : State) (t : Txn) (se se' : Scan) (st : Byte) (e : Nat) (ts : List Turn),
    PhaseDone s t (.sweep se) st ts → TxnOver t st → se.i = 8 → se.r = 8 → se.ch = 2 → se.half = .high →
    (e : Int) = ((s.cnt : Int) - se.base) % 2 ^ s.cfg.tbWidth →
    scanPos se' = 0 → se'.base = se.base → se'.period = se.period →
    se'.fails.toNat = failsAfter (st != t.ph.expected) se.fails →
    (se.period ≤ e → step s = .next { s with
      busTrace := s.busTrace ++ if st = t.ph.expected then [.stop] else []
      stat := if st = t.ph.expected then none else some st
      tbRun := false, cnt := 0, en := 0, outTrace := s.outTrace ++ [.en 0]
      result := se'.fails, resp := .ok, busy := false, ctl := .idle, script := ts }) ∧
    (e < se.period → step s = .next { s with
      busTrace := s.busTrace ++ if st = t.ph.expected then [.stop, .start] else [.start]
      stat := if st = t.ph.expected then none else some st
      bdPend := .start, hb := !s.hb, en := oneHot s.cfg.colOrder[0]
      outTrace := s.outTrace ++ [.hb (!s.hb), .en (oneHot s.cfg.colOrder[0])]
      ctl := .waitBus (.txn (scanTxnAt s se') (.sweep se')), script := ts })

/-- A sweep that ends does so after its pass's last transaction, has counted at least its period, and leaves every column
off, the Time Base stopped and clear, and the answer OK with the failure count, which includes a failure of this last
transaction (R158, R160, R161). -/
def Obligations.SweepEndsOnlyAfterPeriod : Prop :=
  ∀ (s s' : State) (t : Txn) (se : Scan), s.ctl = .waitBus (.txn t (.sweep se)) → step s = .next s' →
    s.nextTurn.1 ≠ .powerOn → s'.ctl = .idle →
    scanPos se = 485 ∧ se.period ≤ elapsed s.cfg.tbWidth s.cnt se.base ∧ s'.en = 0 ∧ s'.tbRun = false ∧ s'.cnt = 0 ∧
      s'.resp = .ok ∧ s'.busy = false ∧
      (∀ st, s.stat = some st → TxnOver t st ∧ s'.result.toNat = failsAfter (st != t.ph.expected) se.fails)

/-- `1 << c` powers exactly column `c`; a legal `EN` is all off or one such value and never powers two columns; each pin
carries its bit in the board's polarity (R38, R154, R267). -/
def Obligations.AtMostOneColumnPowered : Prop :=
  (∀ c c' : Fin 9, (oneHot c).getLsbD c'.val = true ↔ c' = c) ∧
  (∀ v : Enables, enLegal v = true ↔ v = 0 ∨ ∃ c, v = oneHot c) ∧
  ∀ s : State, enLegal s.en = true → ∀ c c' : Fin 9,
    (s.en.getLsbD c.val = true → s.en.getLsbD c'.val = true → c = c') ∧
    s.pin c = (s.en.getLsbD c.val ^^ s.cfg.enActiveLow)

/-- Only the Scan Engine and power-on change the column enables and the heartbeat (R38, R39). -/
def Obligations.OutputsOnlyFromSweep : Prop :=
  ∀ s s' : State, step s = .next s' → s'.en ≠ s.en ∨ s'.hb ≠ s.hb ∨ s'.outTrace ≠ s.outTrace →
    s.nextTurn.1 = .powerOn ∨
    (s.nextTurn.1 = .controller ∧ s.fault = none ∧
      ((s.ctl = .start ∧ decode s.cmd = .ok .sweep) ∨ ∃ se, scanOf s.ctl = some se))

/-! ### Time Base commands (44_time_base.md) -/

/-- R192 to R196: what each Time Base command writes, and nothing else. -/
def Obligations.TimeBaseCommands : Prop :=
  (encode .tbInit = 0x20000000 ∧ encode .tbStart = 0x21000000 ∧ encode .tbStop = 0x22000000 ∧
    encode .tbClear = 0x23000000 ∧ encode .tbRead = 0x24000000) ∧
  ∀ s : State,
    exec .tbInit s = .next { s with tbCfg := true, result := 0, resp := .ok, busy := false, ctl := .idle } ∧
    (s.tbCfg = true →
      exec .tbStart s = .next { s with tbRun := true, result := 0, resp := .ok, busy := false, ctl := .idle }) ∧
    (s.tbCfg = false → s.fault = none → exec .tbStart s = .next { s with fault := some .tbNotConfigured }) ∧
    exec .tbStop s = .next { s with tbRun := false, result := 0, resp := .ok, busy := false, ctl := .idle } ∧
    exec .tbClear s = .next { s with cnt := 0, result := 0, resp := .ok, busy := false, ctl := .idle } ∧
    (s.cnt < 2 ^ 32 → ∃ w : Word, w.toNat = s.cnt ∧
      exec .tbRead s = .next { s with result := w, resp := .ok, busy := false, ctl := .idle })

/-! ### Brightness Buffer (45_brightness_buffer.md) -/

/-- R210: BUF_CLEAR zeroes every cell, and a read of any cell then answers 0. -/
def Obligations.BufClearZeroesEveryCell : Prop :=
  encode .bufClear = 0x30000000 ∧ ∀ s : State, ∃ t, exec .bufClear s = .next t ∧ (∀ ch r c, t.cell ch r c = 0) ∧
    t = { s with buf := t.buf, result := 0, resp := .ok, busy := false, ctl := .idle } ∧
    ∀ (r c : BitVec 4) (h : BitVec 2), r ≤ 8 → c ≤ 8 → h ≤ 2 → exec (.bufRead r c h) t = .next t

/-- R211: a valid BUF_SET_BRIGHTNESS stores and answers `Q(v, s)` in the cell it names; every other cell and everything
else stays. -/
def Obligations.SetBrightnessStoresQuantized : Prop :=
  ∀ (s : State) (ch : Fin 3) (r c : Fin 9), 0 ≤ s.arg.toInt → s.arg.toInt ≤ 65536 →
    ∃ t, exec (.bufSetBrightness (BitVec.ofNat 4 r) (BitVec.ofNat 4 c) (BitVec.ofNat 2 ch)) s = .next t ∧
      (t.cell ch r c).toNat = quantize s.arg.toNat s.scale.toNat ∧
      t.result.toNat = quantize s.arg.toNat s.scale.toNat ∧
      (∀ ch' r' c', (ch', r', c') ≠ (ch, r, c) → t.cell ch' r' c' = s.cell ch' r' c') ∧
      t = { s with buf := t.buf, result := t.result, resp := .ok, busy := false, ctl := .idle }

/-- R214: an index or a value out of range answers INPUT_ERROR with RESULT 0 and writes nothing; the bounds 0 and 1
of the value are valid. -/
def Obligations.OutOfRangeInputRejected : Prop :=
  ∀ (s : State) (r c : BitVec 4) (h : BitVec 2),
    ((8 < r ∨ 8 < c ∨ 2 < h ∨ s.arg.toInt < 0 ∨ 65536 < s.arg.toInt) →
      exec (.bufSetBrightness r c h) s =
        .next { s with result := 0, resp := .inputError, busy := false, ctl := .idle }) ∧
    ((8 < r ∨ 8 < c ∨ 2 < h) →
      exec (.bufRead r c h) s = .next { s with result := 0, resp := .inputError, busy := false, ctl := .idle }) ∧
    (r ≤ 8 → c ≤ 8 → h ≤ 2 → s.arg = 0 ∨ s.arg = 0x00010000 →
      ∃ t, exec (.bufSetBrightness r c h) s = .next t ∧ t.resp = .ok)

/-- R215: BUF_READ answers the cell's value. -/
def Obligations.BufReadAnswersCell : Prop :=
  ∀ (s : State) (ch : Fin 3) (r c : Fin 9), ∃ w : Word, w.toNat = (s.cell ch r c).toNat ∧
    exec (.bufRead (BitVec.ofNat 4 r) (BitVec.ofNat 4 c) (BitVec.ofNat 2 ch)) s =
      .next { s with result := w, resp := .ok, busy := false, ctl := .idle }

/-- R216: SET_SCALE takes ARG as the scale, whatever it is, and rescales no cell. -/
def Obligations.SetScaleTakesArg : Prop :=
  ∀ s : State, ∃ t, exec .setScale s = .next t ∧
    t = { s with scale := s.arg, result := 0, resp := .ok, busy := false, ctl := .idle } ∧
    ∀ ch r c, t.cell ch r c = s.cell ch r c

/-- R212 and R213: the integer formula is the rational one, rounded half up and clamped to `0 .. 4095`, for the
normalized value and the scale that ARG and SCALE stand for as exact rationals (R11, R86), and its intermediate value
fits 62 bits. -/
def Obligations.QuantizeIsRationalRounding : Prop :=
  (∀ v s : Nat, ((quantize v s : Nat) : Int) =
    min 4095 (max 0 ⌊(4095 : ℚ) * ((v : ℚ) / 65536) * ((s : ℚ) / 65536) + 1 / 2⌋)) ∧
  (∀ arg scale : Word,
    (normalizedValue arg = (arg.toInt : ℚ) / 65536 ∧ scaleValue scale = (scale.toNat : ℚ) / 65536) ∧
    (normalizedOk arg = true ↔ 0 ≤ normalizedValue arg ∧ normalizedValue arg ≤ 1) ∧
    (0 ≤ normalizedValue arg → normalizedValue arg ≤ 1 →
      ((quantize arg.toNat scale.toNat : Nat) : Int) = quantizeExact (normalizedValue arg) (scaleValue scale))) ∧
  (∀ v s : ℚ, quantizeExact v s = min 4095 (max 0 ⌊4095 * v * s + 1 / 2⌋)) ∧
  (∀ v s : Nat, quantize v s = min 4095 ((4095 * v * s + 2 ^ 31) / 2 ^ 32)) ∧
  ∀ v s : Nat, v ≤ 65536 → s < 2 ^ 32 → 4095 * v * s + 2 ^ 31 < 2 ^ 62

/-- Only BUF_CLEAR, BUF_SET_BRIGHTNESS and power-on change a cell of the Buffer (R35), so nothing does while a sweep
runs (R72). -/
def Obligations.BufferWrittenOnlyByItsCommands : Prop :=
  ∀ s s' : State, step s = .next s' → s'.buf ≠ s.buf →
    s.nextTurn.1 = .powerOn ∨
    (s.nextTurn.1 = .controller ∧ s.ctl = .start ∧
      (decode s.cmd = .ok .bufClear ∨ ∃ r c h, decode s.cmd = .ok (.bufSetBrightness r c h)))

/-! ### Frames -/

/-- What the first step of each command leaves alone: what no command writes, and each element but for the commands
whose rule writes it. -/
def Obligations.ExecFrame : Prop :=
  ∀ (i : Instr) (s t : State), exec i s = .next t →
    (t.cfg = s.cfg ∧ t.cmd = s.cmd ∧ t.arg = s.arg ∧ t.rxd = s.rxd ∧ t.hostProg = s.hostProg ∧
      t.hostData = s.hostData ∧ t.script = s.script) ∧
    (i ≠ .bdInit → t.bdEn = s.bdEn) ∧
    (i ≠ .tbInit → t.tbCfg = s.tbCfg) ∧
    (i ∉ [.tbStart, .tbStop, .sweep] → t.tbRun = s.tbRun) ∧
    (i ≠ .tbClear → t.cnt = s.cnt) ∧
    (i ≠ .bufClear → (∀ r c h, i ≠ .bufSetBrightness r c h) → t.buf = s.buf) ∧
    (i ≠ .setScale → t.scale = s.scale) ∧
    (i ≠ .sweep → t.en = s.en ∧ t.hb = s.hb ∧ t.outTrace = s.outTrace) ∧
    (i ∈ [.bdInit, .bdStatus, .tbInit, .tbStart, .tbStop, .tbClear, .tbRead, .bufClear, .setScale] →
      t.busTrace = s.busTrace ∧ t.bdPend = s.bdPend ∧ t.stat = s.stat) ∧
    ((∃ r c h, i = .bufSetBrightness r c h ∨ i = .bufRead r c h) →
      t.busTrace = s.busTrace ∧ t.bdPend = s.bdPend ∧ t.stat = s.stat) ∧
    (i ≠ .bdStop → t.stat = s.stat) ∧
    (i ≠ .bdStatus → t.draws = s.draws) ∧
    (s.fault ≠ none → t.fault = s.fault)

/-- What the Controller leaves alone when it goes on after a completed phase, with `STAT` known where a register write
checks it and `RXD` known where a read command answers it: everything but the bus, the outputs, the
sweep's clear of the Time Base, the control point and the answer. -/
def Obligations.ResumeFrame : Prop :=
  ∀ (s : State) (w : Wait), ((∃ t who, w = .txn t who) → s.stat.isSome = true) →
    (w = .respondByte → s.rxd.isSome = true) →
    s.resume w = { s with
      busTrace := (s.resume w).busTrace, outTrace := (s.resume w).outTrace, bdPend := (s.resume w).bdPend
      stat := (s.resume w).stat, ctl := (s.resume w).ctl, en := (s.resume w).en, hb := (s.resume w).hb
      tbRun := (s.resume w).tbRun, cnt := (s.resume w).cnt, result := (s.resume w).result
      resp := (s.resume w).resp, busy := (s.resume w).busy, fault := (s.resume w).fault } ∧
    (scanOf (.waitBus w) = none →
      (s.resume w).outTrace = s.outTrace ∧ (s.resume w).en = s.en ∧ (s.resume w).hb = s.hb ∧
        (s.resume w).tbRun = s.tbRun ∧ (s.resume w).cnt = s.cnt) ∧
    ((s.resume w).resp ≠ s.resp ∨ (s.resume w).result ≠ s.result ∨ (s.resume w).busy ≠ s.busy →
      (s.resume w).busy = false ∧ (s.resume w).ctl = .idle)

/-- The histories only grow, but for power-on (R40), and the board's parameters never change (R42). -/
def Obligations.HistoriesGrowAndBoardStays : Prop :=
  ∀ s s' : State, step s = .next s' → s'.cfg = s.cfg ∧
    (s.nextTurn.1 ≠ .powerOn →
      (∃ es, s'.busTrace = s.busTrace ++ es) ∧ ∃ es, s'.outTrace = s.outTrace ++ es)

/-- Only the Controller's turn and power-on end a command, and the answer is written only as the command ends (R24). -/
def Obligations.AnswerOnlyAtTheEnd : Prop :=
  ∀ s s' : State, step s = .next s' → s'.result ≠ s.result ∨ s'.resp ≠ s.resp ∨ (s.busy = true ∧ s'.busy = false) →
    (s.nextTurn.1 = .controller ∨ s.nextTurn.1 = .powerOn) ∧ s'.busy = false ∧ s'.ctl = .idle ∧ s'.fault = none

/-! ### Reset and the invariant -/

/-- R261: the reset value of every element; each cell of `BUF` holds some value of `0 .. 4095`. -/
def Obligations.ResetValues : Prop :=
  State.reset.ctl = .idle ∧ State.reset.cmd = 0 ∧ State.reset.arg = 0 ∧ State.reset.result = 0 ∧
  State.reset.busy = false ∧ State.reset.resp = .ok ∧ State.reset.csr = 0 ∧ State.reset.bdEn = false ∧
  State.reset.bdPend = .none ∧ State.reset.stat = none ∧ State.reset.rxd = none ∧ State.reset.tbCfg = false ∧
  State.reset.tbRun = false ∧ State.reset.cnt = 0 ∧ State.reset.scale = 0x00010000 ∧ State.reset.en = 0 ∧
  State.reset.hb = false ∧ State.reset.busTrace = [] ∧ State.reset.outTrace = [] ∧ State.reset.fault = none ∧
  ∀ ch r c, (State.reset.cell ch r c).toNat ≤ 4095

/-- R260: power-on, in any state, puts every element to its reset value, whatever was in progress; the board's
parameters survive, and the cells of `BUF` hold fresh free values.
What goes on outside the LMC, and the form of the free values, are the model's choice (log 7, log 8). -/
def Obligations.PowerOnResets : Prop :=
  ∀ (s : State) (ts : List Turn), s.script = .powerOn :: ts →
    ∃ t, step s = .next t ∧ (∀ ch r c, t.cell ch r c = Config.drawCell s.draws (cellIndex ch r c)) ∧
      t = { State.reset with
        cfg := s.cfg, buf := t.buf, hostProg := s.hostProg, hostData := s.hostData, script := ts
        draws := s.draws + 1 }

/-- Every step, of every agent, keeps the invariant; and a Controller's turn that leaves no fault leaves a phase pending
exactly when it leaves the Controller at `WAIT_BUS` (R27).
Between the BusPeer's completion and the Controller's next turn only one direction of R27 holds: the model's choice
(log 25). -/
def Obligations.StepKeepsInvariant : Prop :=
  ∀ s s' : State, LmcInv s → step s = .next s' → LmcInv s' ∧
    (s.nextTurn.1 = .controller → s'.fault = none → (s'.bdPend ≠ .none ↔ ∃ w, s'.ctl = .waitBus w))

/-- The reset state meets the invariant. -/
def Obligations.ResetMeetsInvariant : Prop := LmcInv State.reset

/-! ### Register writes of every caller -/

/-- One step of `WriteRegister` for RT_WRITE_REG, CHIP_INIT and SWEEP alike, whatever came before (R130 to R132).
The expected status at a phase sends the next byte, and at the last phase the STOP.
RT_WRITE_REG then answers OK; CHIP_INIT begins the next write of `INIT_SEQ`, or answers OK after the last (R134, R180).
A mismatch in RT_WRITE_REG answers BUS_FAILURE (R134).
What SWEEP does at the end of a transaction is SweepCountsFailure and SweepTestsAfterPass; CHIP_INIT's retry is
ChipInitRetriesAtOnce.
The completed phase's wait point still in CTL is the model's choice (log 25). -/
def Obligations.WriteRegisterAdvances : Prop :=
  ∀ (s : State) (t : Txn) (who : Caller) (st : Byte) (ts : List Turn), PhaseDone s t who st ts →
    (t.ph = .start → st = 0x08 → step s = .next { s with
      busTrace := s.busTrace ++ [.byte (slaw t.addr)], bdPend := .write (slaw t.addr)
      ctl := .waitBus (.txn { t with ph := .address } who), script := ts }) ∧
    (t.ph = .address → st = 0x18 → step s = .next { s with
      busTrace := s.busTrace ++ [.byte t.reg], bdPend := .write t.reg
      ctl := .waitBus (.txn { t with ph := .register } who), script := ts }) ∧
    (t.ph = .register → st = 0x28 → step s = .next { s with
      busTrace := s.busTrace ++ [.byte t.val], bdPend := .write t.val
      ctl := .waitBus (.txn { t with ph := .data } who), script := ts }) ∧
    (t.ph = .data → st = 0x28 → who = .writeReg → step s = .next { s with
      busTrace := s.busTrace ++ [.stop], stat := none
      result := 0, resp := .ok, busy := false, ctl := .idle, script := ts }) ∧
    (∀ a idx g v, t.ph = .data → st = 0x28 → who = .chipInit a idx → s.cfg.initSeq[idx + 1]? = some (g, v) →
      step s = .next { s with
        busTrace := s.busTrace ++ [.stop, .start], stat := none, bdPend := .start
        ctl := .waitBus (.txn { addr := a, reg := g, val := v, ph := .start } (.chipInit a (idx + 1)))
        script := ts }) ∧
    (∀ a idx, t.ph = .data → st = 0x28 → who = .chipInit a idx → s.cfg.initSeq.length ≤ idx + 1 →
      step s = .next { s with
        busTrace := s.busTrace ++ [.stop], stat := none
        result := 0, resp := .ok, busy := false, ctl := .idle, script := ts }) ∧
    (who = .writeReg → st ≠ t.ph.expected → step s = .next { s with
      result := BitVec.ofNat 32 (t.ph.number.toNat * 256 + st.toNat), resp := .busFailure
      busy := false, ctl := .idle, script := ts })
end

