-- ==== Sys2Proof/Laws/State.lean ====
section
/-! SUPPORT. What each named update of State leaves in each field: one lemma per field per update. -/

namespace Sys2Proof.Machine

/-! ### `State.setEn`: Column select and all-off (R154, R160). -/

@[simp] theorem State.setEn_cfg (s : State) (v : Enables) : (s.setEn v).cfg = s.cfg := rfl
@[simp] theorem State.setEn_cmd (s : State) (v : Enables) : (s.setEn v).cmd = s.cmd := rfl
@[simp] theorem State.setEn_arg (s : State) (v : Enables) : (s.setEn v).arg = s.arg := rfl
@[simp] theorem State.setEn_result (s : State) (v : Enables) : (s.setEn v).result = s.result := rfl
@[simp] theorem State.setEn_busy (s : State) (v : Enables) : (s.setEn v).busy = s.busy := rfl
@[simp] theorem State.setEn_resp (s : State) (v : Enables) : (s.setEn v).resp = s.resp := rfl
@[simp] theorem State.setEn_ctl (s : State) (v : Enables) : (s.setEn v).ctl = s.ctl := rfl
@[simp] theorem State.setEn_bdEn (s : State) (v : Enables) : (s.setEn v).bdEn = s.bdEn := rfl
@[simp] theorem State.setEn_bdPend (s : State) (v : Enables) : (s.setEn v).bdPend = s.bdPend := rfl
@[simp] theorem State.setEn_stat (s : State) (v : Enables) : (s.setEn v).stat = s.stat := rfl
@[simp] theorem State.setEn_rxd (s : State) (v : Enables) : (s.setEn v).rxd = s.rxd := rfl
@[simp] theorem State.setEn_tbCfg (s : State) (v : Enables) : (s.setEn v).tbCfg = s.tbCfg := rfl
@[simp] theorem State.setEn_tbRun (s : State) (v : Enables) : (s.setEn v).tbRun = s.tbRun := rfl
@[simp] theorem State.setEn_cnt (s : State) (v : Enables) : (s.setEn v).cnt = s.cnt := rfl
@[simp] theorem State.setEn_buf (s : State) (v : Enables) : (s.setEn v).buf = s.buf := rfl
@[simp] theorem State.setEn_scale (s : State) (v : Enables) : (s.setEn v).scale = s.scale := rfl
@[simp] theorem State.setEn_en (s : State) (v : Enables) : (s.setEn v).en = v := rfl
@[simp] theorem State.setEn_hb (s : State) (v : Enables) : (s.setEn v).hb = s.hb := rfl
@[simp] theorem State.setEn_busTrace (s : State) (v : Enables) : (s.setEn v).busTrace = s.busTrace := rfl
@[simp] theorem State.setEn_outTrace (s : State) (v : Enables) :
    (s.setEn v).outTrace = s.outTrace ++ [.en v] := rfl
@[simp] theorem State.setEn_fault (s : State) (v : Enables) : (s.setEn v).fault = s.fault := rfl
@[simp] theorem State.setEn_hostProg (s : State) (v : Enables) : (s.setEn v).hostProg = s.hostProg := rfl
@[simp] theorem State.setEn_hostData (s : State) (v : Enables) : (s.setEn v).hostData = s.hostData := rfl
@[simp] theorem State.setEn_script (s : State) (v : Enables) : (s.setEn v).script = s.script := rfl
@[simp] theorem State.setEn_draws (s : State) (v : Enables) : (s.setEn v).draws = s.draws := rfl

/-! ### `State.toggleHb`: The heartbeat (R153). -/

@[simp] theorem State.toggleHb_cfg (s : State) : s.toggleHb.cfg = s.cfg := rfl
@[simp] theorem State.toggleHb_cmd (s : State) : s.toggleHb.cmd = s.cmd := rfl
@[simp] theorem State.toggleHb_arg (s : State) : s.toggleHb.arg = s.arg := rfl
@[simp] theorem State.toggleHb_result (s : State) : s.toggleHb.result = s.result := rfl
@[simp] theorem State.toggleHb_busy (s : State) : s.toggleHb.busy = s.busy := rfl
@[simp] theorem State.toggleHb_resp (s : State) : s.toggleHb.resp = s.resp := rfl
@[simp] theorem State.toggleHb_ctl (s : State) : s.toggleHb.ctl = s.ctl := rfl
@[simp] theorem State.toggleHb_bdEn (s : State) : s.toggleHb.bdEn = s.bdEn := rfl
@[simp] theorem State.toggleHb_bdPend (s : State) : s.toggleHb.bdPend = s.bdPend := rfl
@[simp] theorem State.toggleHb_stat (s : State) : s.toggleHb.stat = s.stat := rfl
@[simp] theorem State.toggleHb_rxd (s : State) : s.toggleHb.rxd = s.rxd := rfl
@[simp] theorem State.toggleHb_tbCfg (s : State) : s.toggleHb.tbCfg = s.tbCfg := rfl
@[simp] theorem State.toggleHb_tbRun (s : State) : s.toggleHb.tbRun = s.tbRun := rfl
@[simp] theorem State.toggleHb_cnt (s : State) : s.toggleHb.cnt = s.cnt := rfl
@[simp] theorem State.toggleHb_buf (s : State) : s.toggleHb.buf = s.buf := rfl
@[simp] theorem State.toggleHb_scale (s : State) : s.toggleHb.scale = s.scale := rfl
@[simp] theorem State.toggleHb_en (s : State) : s.toggleHb.en = s.en := rfl
@[simp] theorem State.toggleHb_hb (s : State) : s.toggleHb.hb = !s.hb := rfl
@[simp] theorem State.toggleHb_busTrace (s : State) : s.toggleHb.busTrace = s.busTrace := rfl
@[simp] theorem State.toggleHb_outTrace (s : State) : s.toggleHb.outTrace = s.outTrace ++ [.hb !s.hb] := rfl
@[simp] theorem State.toggleHb_fault (s : State) : s.toggleHb.fault = s.fault := rfl
@[simp] theorem State.toggleHb_hostProg (s : State) : s.toggleHb.hostProg = s.hostProg := rfl
@[simp] theorem State.toggleHb_hostData (s : State) : s.toggleHb.hostData = s.hostData := rfl
@[simp] theorem State.toggleHb_script (s : State) : s.toggleHb.script = s.script := rfl
@[simp] theorem State.toggleHb_draws (s : State) : s.toggleHb.draws = s.draws := rfl

/-! ### `State.respond`: The end of a command (R24). -/

@[simp] theorem State.respond_cfg (s : State) (c : Resp) (w : Word) : (s.respond c w).cfg = s.cfg := rfl
@[simp] theorem State.respond_cmd (s : State) (c : Resp) (w : Word) : (s.respond c w).cmd = s.cmd := rfl
@[simp] theorem State.respond_arg (s : State) (c : Resp) (w : Word) : (s.respond c w).arg = s.arg := rfl
@[simp] theorem State.respond_result (s : State) (c : Resp) (w : Word) : (s.respond c w).result = w := rfl
@[simp] theorem State.respond_busy (s : State) (c : Resp) (w : Word) : (s.respond c w).busy = false := rfl
@[simp] theorem State.respond_resp (s : State) (c : Resp) (w : Word) : (s.respond c w).resp = c := rfl
@[simp] theorem State.respond_ctl (s : State) (c : Resp) (w : Word) : (s.respond c w).ctl = .idle := rfl
@[simp] theorem State.respond_bdEn (s : State) (c : Resp) (w : Word) : (s.respond c w).bdEn = s.bdEn := rfl
@[simp] theorem State.respond_bdPend (s : State) (c : Resp) (w : Word) : (s.respond c w).bdPend = s.bdPend := rfl
@[simp] theorem State.respond_stat (s : State) (c : Resp) (w : Word) : (s.respond c w).stat = s.stat := rfl
@[simp] theorem State.respond_rxd (s : State) (c : Resp) (w : Word) : (s.respond c w).rxd = s.rxd := rfl
@[simp] theorem State.respond_tbCfg (s : State) (c : Resp) (w : Word) : (s.respond c w).tbCfg = s.tbCfg := rfl
@[simp] theorem State.respond_tbRun (s : State) (c : Resp) (w : Word) : (s.respond c w).tbRun = s.tbRun := rfl
@[simp] theorem State.respond_cnt (s : State) (c : Resp) (w : Word) : (s.respond c w).cnt = s.cnt := rfl
@[simp] theorem State.respond_buf (s : State) (c : Resp) (w : Word) : (s.respond c w).buf = s.buf := rfl
@[simp] theorem State.respond_scale (s : State) (c : Resp) (w : Word) : (s.respond c w).scale = s.scale := rfl
@[simp] theorem State.respond_en (s : State) (c : Resp) (w : Word) : (s.respond c w).en = s.en := rfl
@[simp] theorem State.respond_hb (s : State) (c : Resp) (w : Word) : (s.respond c w).hb = s.hb := rfl
@[simp] theorem State.respond_busTrace (s : State) (c : Resp) (w : Word) :
    (s.respond c w).busTrace = s.busTrace := rfl
@[simp] theorem State.respond_outTrace (s : State) (c : Resp) (w : Word) :
    (s.respond c w).outTrace = s.outTrace := rfl
@[simp] theorem State.respond_fault (s : State) (c : Resp) (w : Word) : (s.respond c w).fault = s.fault := rfl
@[simp] theorem State.respond_hostProg (s : State) (c : Resp) (w : Word) :
    (s.respond c w).hostProg = s.hostProg := rfl
@[simp] theorem State.respond_hostData (s : State) (c : Resp) (w : Word) :
    (s.respond c w).hostData = s.hostData := rfl
@[simp] theorem State.respond_script (s : State) (c : Resp) (w : Word) : (s.respond c w).script = s.script := rfl
@[simp] theorem State.respond_draws (s : State) (c : Resp) (w : Word) : (s.respond c w).draws = s.draws := rfl

/-! ### `State.raise`: Entering the faulted state (R236). -/

@[simp] theorem State.raise_cfg (s : State) (k : Fault) : (s.raise k).cfg = s.cfg := by
  cases h : s.fault <;> simp [State.raise, h]
@[simp] theorem State.raise_cmd (s : State) (k : Fault) : (s.raise k).cmd = s.cmd := by
  cases h : s.fault <;> simp [State.raise, h]
@[simp] theorem State.raise_arg (s : State) (k : Fault) : (s.raise k).arg = s.arg := by
  cases h : s.fault <;> simp [State.raise, h]
@[simp] theorem State.raise_result (s : State) (k : Fault) : (s.raise k).result = s.result := by
  cases h : s.fault <;> simp [State.raise, h]
@[simp] theorem State.raise_busy (s : State) (k : Fault) : (s.raise k).busy = s.busy := by
  cases h : s.fault <;> simp [State.raise, h]
@[simp] theorem State.raise_resp (s : State) (k : Fault) : (s.raise k).resp = s.resp := by
  cases h : s.fault <;> simp [State.raise, h]
@[simp] theorem State.raise_ctl (s : State) (k : Fault) : (s.raise k).ctl = s.ctl := by
  cases h : s.fault <;> simp [State.raise, h]
@[simp] theorem State.raise_bdEn (s : State) (k : Fault) : (s.raise k).bdEn = s.bdEn := by
  cases h : s.fault <;> simp [State.raise, h]
@[simp] theorem State.raise_bdPend (s : State) (k : Fault) : (s.raise k).bdPend = s.bdPend := by
  cases h : s.fault <;> simp [State.raise, h]
@[simp] theorem State.raise_stat (s : State) (k : Fault) : (s.raise k).stat = s.stat := by
  cases h : s.fault <;> simp [State.raise, h]
@[simp] theorem State.raise_rxd (s : State) (k : Fault) : (s.raise k).rxd = s.rxd := by
  cases h : s.fault <;> simp [State.raise, h]
@[simp] theorem State.raise_tbCfg (s : State) (k : Fault) : (s.raise k).tbCfg = s.tbCfg := by
  cases h : s.fault <;> simp [State.raise, h]
@[simp] theorem State.raise_tbRun (s : State) (k : Fault) : (s.raise k).tbRun = s.tbRun := by
  cases h : s.fault <;> simp [State.raise, h]
@[simp] theorem State.raise_cnt (s : State) (k : Fault) : (s.raise k).cnt = s.cnt := by
  cases h : s.fault <;> simp [State.raise, h]
@[simp] theorem State.raise_buf (s : State) (k : Fault) : (s.raise k).buf = s.buf := by
  cases h : s.fault <;> simp [State.raise, h]
@[simp] theorem State.raise_scale (s : State) (k : Fault) : (s.raise k).scale = s.scale := by
  cases h : s.fault <;> simp [State.raise, h]
@[simp] theorem State.raise_en (s : State) (k : Fault) : (s.raise k).en = s.en := by
  cases h : s.fault <;> simp [State.raise, h]
@[simp] theorem State.raise_hb (s : State) (k : Fault) : (s.raise k).hb = s.hb := by
  cases h : s.fault <;> simp [State.raise, h]
@[simp] theorem State.raise_busTrace (s : State) (k : Fault) : (s.raise k).busTrace = s.busTrace := by
  cases h : s.fault <;> simp [State.raise, h]
@[simp] theorem State.raise_outTrace (s : State) (k : Fault) : (s.raise k).outTrace = s.outTrace := by
  cases h : s.fault <;> simp [State.raise, h]
@[simp] theorem State.raise_fault (s : State) (k : Fault) : (s.raise k).fault = some (s.fault.getD k) := by
  cases h : s.fault <;> simp [State.raise, h]
@[simp] theorem State.raise_hostProg (s : State) (k : Fault) : (s.raise k).hostProg = s.hostProg := by
  cases h : s.fault <;> simp [State.raise, h]
@[simp] theorem State.raise_hostData (s : State) (k : Fault) : (s.raise k).hostData = s.hostData := by
  cases h : s.fault <;> simp [State.raise, h]
@[simp] theorem State.raise_script (s : State) (k : Fault) : (s.raise k).script = s.script := by
  cases h : s.fault <;> simp [State.raise, h]
@[simp] theorem State.raise_draws (s : State) (k : Fault) : (s.raise k).draws = s.draws := by
  cases h : s.fault <;> simp [State.raise, h]

/-! ### `State.drew`: A free draw (R12). -/

@[simp] theorem State.drew_cfg (s : State) : s.drew.cfg = s.cfg := rfl
@[simp] theorem State.drew_cmd (s : State) : s.drew.cmd = s.cmd := rfl
@[simp] theorem State.drew_arg (s : State) : s.drew.arg = s.arg := rfl
@[simp] theorem State.drew_result (s : State) : s.drew.result = s.result := rfl
@[simp] theorem State.drew_busy (s : State) : s.drew.busy = s.busy := rfl
@[simp] theorem State.drew_resp (s : State) : s.drew.resp = s.resp := rfl
@[simp] theorem State.drew_ctl (s : State) : s.drew.ctl = s.ctl := rfl
@[simp] theorem State.drew_bdEn (s : State) : s.drew.bdEn = s.bdEn := rfl
@[simp] theorem State.drew_bdPend (s : State) : s.drew.bdPend = s.bdPend := rfl
@[simp] theorem State.drew_stat (s : State) : s.drew.stat = s.stat := rfl
@[simp] theorem State.drew_rxd (s : State) : s.drew.rxd = s.rxd := rfl
@[simp] theorem State.drew_tbCfg (s : State) : s.drew.tbCfg = s.tbCfg := rfl
@[simp] theorem State.drew_tbRun (s : State) : s.drew.tbRun = s.tbRun := rfl
@[simp] theorem State.drew_cnt (s : State) : s.drew.cnt = s.cnt := rfl
@[simp] theorem State.drew_buf (s : State) : s.drew.buf = s.buf := rfl
@[simp] theorem State.drew_scale (s : State) : s.drew.scale = s.scale := rfl
@[simp] theorem State.drew_en (s : State) : s.drew.en = s.en := rfl
@[simp] theorem State.drew_hb (s : State) : s.drew.hb = s.hb := rfl
@[simp] theorem State.drew_busTrace (s : State) : s.drew.busTrace = s.busTrace := rfl
@[simp] theorem State.drew_outTrace (s : State) : s.drew.outTrace = s.outTrace := rfl
@[simp] theorem State.drew_fault (s : State) : s.drew.fault = s.fault := rfl
@[simp] theorem State.drew_hostProg (s : State) : s.drew.hostProg = s.hostProg := rfl
@[simp] theorem State.drew_hostData (s : State) : s.drew.hostData = s.hostData := rfl
@[simp] theorem State.drew_script (s : State) : s.drew.script = s.script := rfl
@[simp] theorem State.drew_draws (s : State) : s.drew.draws = s.draws + 1 := rfl

/-! ### `State.issue`: A bus phase issued (R102). -/

@[simp] theorem State.issue_cfg (s : State) (e : BusEvent) (p : Pend) (w : Wait) :
    (s.issue e p w).cfg = s.cfg := rfl
@[simp] theorem State.issue_cmd (s : State) (e : BusEvent) (p : Pend) (w : Wait) :
    (s.issue e p w).cmd = s.cmd := rfl
@[simp] theorem State.issue_arg (s : State) (e : BusEvent) (p : Pend) (w : Wait) :
    (s.issue e p w).arg = s.arg := rfl
@[simp] theorem State.issue_result (s : State) (e : BusEvent) (p : Pend) (w : Wait) :
    (s.issue e p w).result = s.result := rfl
@[simp] theorem State.issue_busy (s : State) (e : BusEvent) (p : Pend) (w : Wait) :
    (s.issue e p w).busy = s.busy := rfl
@[simp] theorem State.issue_resp (s : State) (e : BusEvent) (p : Pend) (w : Wait) :
    (s.issue e p w).resp = s.resp := rfl
@[simp] theorem State.issue_ctl (s : State) (e : BusEvent) (p : Pend) (w : Wait) :
    (s.issue e p w).ctl = .waitBus w := rfl
@[simp] theorem State.issue_bdEn (s : State) (e : BusEvent) (p : Pend) (w : Wait) :
    (s.issue e p w).bdEn = s.bdEn := rfl
@[simp] theorem State.issue_bdPend (s : State) (e : BusEvent) (p : Pend) (w : Wait) :
    (s.issue e p w).bdPend = p := rfl
@[simp] theorem State.issue_stat (s : State) (e : BusEvent) (p : Pend) (w : Wait) :
    (s.issue e p w).stat = s.stat := rfl
@[simp] theorem State.issue_rxd (s : State) (e : BusEvent) (p : Pend) (w : Wait) :
    (s.issue e p w).rxd = s.rxd := rfl
@[simp] theorem State.issue_tbCfg (s : State) (e : BusEvent) (p : Pend) (w : Wait) :
    (s.issue e p w).tbCfg = s.tbCfg := rfl
@[simp] theorem State.issue_tbRun (s : State) (e : BusEvent) (p : Pend) (w : Wait) :
    (s.issue e p w).tbRun = s.tbRun := rfl
@[simp] theorem State.issue_cnt (s : State) (e : BusEvent) (p : Pend) (w : Wait) :
    (s.issue e p w).cnt = s.cnt := rfl
@[simp] theorem State.issue_buf (s : State) (e : BusEvent) (p : Pend) (w : Wait) :
    (s.issue e p w).buf = s.buf := rfl
@[simp] theorem State.issue_scale (s : State) (e : BusEvent) (p : Pend) (w : Wait) :
    (s.issue e p w).scale = s.scale := rfl
@[simp] theorem State.issue_en (s : State) (e : BusEvent) (p : Pend) (w : Wait) : (s.issue e p w).en = s.en := rfl
@[simp] theorem State.issue_hb (s : State) (e : BusEvent) (p : Pend) (w : Wait) : (s.issue e p w).hb = s.hb := rfl
@[simp] theorem State.issue_busTrace (s : State) (e : BusEvent) (p : Pend) (w : Wait) :
    (s.issue e p w).busTrace = s.busTrace ++ [e] := rfl
@[simp] theorem State.issue_outTrace (s : State) (e : BusEvent) (p : Pend) (w : Wait) :
    (s.issue e p w).outTrace = s.outTrace := rfl
@[simp] theorem State.issue_fault (s : State) (e : BusEvent) (p : Pend) (w : Wait) :
    (s.issue e p w).fault = s.fault := rfl
@[simp] theorem State.issue_hostProg (s : State) (e : BusEvent) (p : Pend) (w : Wait) :
    (s.issue e p w).hostProg = s.hostProg := rfl
@[simp] theorem State.issue_hostData (s : State) (e : BusEvent) (p : Pend) (w : Wait) :
    (s.issue e p w).hostData = s.hostData := rfl
@[simp] theorem State.issue_script (s : State) (e : BusEvent) (p : Pend) (w : Wait) :
    (s.issue e p w).script = s.script := rfl
@[simp] theorem State.issue_draws (s : State) (e : BusEvent) (p : Pend) (w : Wait) :
    (s.issue e p w).draws = s.draws := rfl

/-! ### `State.issueStop`: A STOP issued (R107). -/

@[simp] theorem State.issueStop_cfg (s : State) : s.issueStop.cfg = s.cfg := rfl
@[simp] theorem State.issueStop_cmd (s : State) : s.issueStop.cmd = s.cmd := rfl
@[simp] theorem State.issueStop_arg (s : State) : s.issueStop.arg = s.arg := rfl
@[simp] theorem State.issueStop_result (s : State) : s.issueStop.result = s.result := rfl
@[simp] theorem State.issueStop_busy (s : State) : s.issueStop.busy = s.busy := rfl
@[simp] theorem State.issueStop_resp (s : State) : s.issueStop.resp = s.resp := rfl
@[simp] theorem State.issueStop_ctl (s : State) : s.issueStop.ctl = s.ctl := rfl
@[simp] theorem State.issueStop_bdEn (s : State) : s.issueStop.bdEn = s.bdEn := rfl
@[simp] theorem State.issueStop_bdPend (s : State) : s.issueStop.bdPend = s.bdPend := rfl
@[simp] theorem State.issueStop_stat (s : State) : s.issueStop.stat = none := rfl
@[simp] theorem State.issueStop_rxd (s : State) : s.issueStop.rxd = s.rxd := rfl
@[simp] theorem State.issueStop_tbCfg (s : State) : s.issueStop.tbCfg = s.tbCfg := rfl
@[simp] theorem State.issueStop_tbRun (s : State) : s.issueStop.tbRun = s.tbRun := rfl
@[simp] theorem State.issueStop_cnt (s : State) : s.issueStop.cnt = s.cnt := rfl
@[simp] theorem State.issueStop_buf (s : State) : s.issueStop.buf = s.buf := rfl
@[simp] theorem State.issueStop_scale (s : State) : s.issueStop.scale = s.scale := rfl
@[simp] theorem State.issueStop_en (s : State) : s.issueStop.en = s.en := rfl
@[simp] theorem State.issueStop_hb (s : State) : s.issueStop.hb = s.hb := rfl
@[simp] theorem State.issueStop_busTrace (s : State) : s.issueStop.busTrace = s.busTrace ++ [.stop] := rfl
@[simp] theorem State.issueStop_outTrace (s : State) : s.issueStop.outTrace = s.outTrace := rfl
@[simp] theorem State.issueStop_fault (s : State) : s.issueStop.fault = s.fault := rfl
@[simp] theorem State.issueStop_hostProg (s : State) : s.issueStop.hostProg = s.hostProg := rfl
@[simp] theorem State.issueStop_hostData (s : State) : s.issueStop.hostData = s.hostData := rfl
@[simp] theorem State.issueStop_script (s : State) : s.issueStop.script = s.script := rfl
@[simp] theorem State.issueStop_draws (s : State) : s.issueStop.draws = s.draws := rfl

/-! ### `State.completePhase`: The BusPeer's completion (R102). -/

@[simp] theorem State.completePhase_cfg (s : State) (raw rx : Byte) : (s.completePhase raw rx).cfg = s.cfg := by
  cases h : s.bdPend <;> simp [State.completePhase, h]
@[simp] theorem State.completePhase_cmd (s : State) (raw rx : Byte) : (s.completePhase raw rx).cmd = s.cmd := by
  cases h : s.bdPend <;> simp [State.completePhase, h]
@[simp] theorem State.completePhase_arg (s : State) (raw rx : Byte) : (s.completePhase raw rx).arg = s.arg := by
  cases h : s.bdPend <;> simp [State.completePhase, h]
@[simp] theorem State.completePhase_result (s : State) (raw rx : Byte) :
    (s.completePhase raw rx).result = s.result := by
  cases h : s.bdPend <;> simp [State.completePhase, h]
@[simp] theorem State.completePhase_busy (s : State) (raw rx : Byte) : (s.completePhase raw rx).busy = s.busy := by
  cases h : s.bdPend <;> simp [State.completePhase, h]
@[simp] theorem State.completePhase_resp (s : State) (raw rx : Byte) : (s.completePhase raw rx).resp = s.resp := by
  cases h : s.bdPend <;> simp [State.completePhase, h]
@[simp] theorem State.completePhase_ctl (s : State) (raw rx : Byte) : (s.completePhase raw rx).ctl = s.ctl := by
  cases h : s.bdPend <;> simp [State.completePhase, h]
@[simp] theorem State.completePhase_bdEn (s : State) (raw rx : Byte) : (s.completePhase raw rx).bdEn = s.bdEn := by
  cases h : s.bdPend <;> simp [State.completePhase, h]
@[simp] theorem State.completePhase_bdPend (s : State) (raw rx : Byte) :
    (s.completePhase raw rx).bdPend = .none := by
  cases h : s.bdPend <;> simp [State.completePhase, h]
@[simp] theorem State.completePhase_stat (s : State) (raw rx : Byte) :
    (s.completePhase raw rx).stat = some (raw &&& s.cfg.statusMask) := by
  cases h : s.bdPend <;> simp [State.completePhase, h]
@[simp] theorem State.completePhase_tbCfg (s : State) (raw rx : Byte) :
    (s.completePhase raw rx).tbCfg = s.tbCfg := by
  cases h : s.bdPend <;> simp [State.completePhase, h]
@[simp] theorem State.completePhase_tbRun (s : State) (raw rx : Byte) :
    (s.completePhase raw rx).tbRun = s.tbRun := by
  cases h : s.bdPend <;> simp [State.completePhase, h]
@[simp] theorem State.completePhase_cnt (s : State) (raw rx : Byte) : (s.completePhase raw rx).cnt = s.cnt := by
  cases h : s.bdPend <;> simp [State.completePhase, h]
@[simp] theorem State.completePhase_buf (s : State) (raw rx : Byte) : (s.completePhase raw rx).buf = s.buf := by
  cases h : s.bdPend <;> simp [State.completePhase, h]
@[simp] theorem State.completePhase_scale (s : State) (raw rx : Byte) :
    (s.completePhase raw rx).scale = s.scale := by
  cases h : s.bdPend <;> simp [State.completePhase, h]
@[simp] theorem State.completePhase_en (s : State) (raw rx : Byte) : (s.completePhase raw rx).en = s.en := by
  cases h : s.bdPend <;> simp [State.completePhase, h]
@[simp] theorem State.completePhase_hb (s : State) (raw rx : Byte) : (s.completePhase raw rx).hb = s.hb := by
  cases h : s.bdPend <;> simp [State.completePhase, h]
@[simp] theorem State.completePhase_busTrace (s : State) (raw rx : Byte) :
    (s.completePhase raw rx).busTrace = s.busTrace := by
  cases h : s.bdPend <;> simp [State.completePhase, h]
@[simp] theorem State.completePhase_outTrace (s : State) (raw rx : Byte) :
    (s.completePhase raw rx).outTrace = s.outTrace := by
  cases h : s.bdPend <;> simp [State.completePhase, h]
@[simp] theorem State.completePhase_fault (s : State) (raw rx : Byte) :
    (s.completePhase raw rx).fault = s.fault := by
  cases h : s.bdPend <;> simp [State.completePhase, h]
@[simp] theorem State.completePhase_hostProg (s : State) (raw rx : Byte) :
    (s.completePhase raw rx).hostProg = s.hostProg := by
  cases h : s.bdPend <;> simp [State.completePhase, h]
@[simp] theorem State.completePhase_hostData (s : State) (raw rx : Byte) :
    (s.completePhase raw rx).hostData = s.hostData := by
  cases h : s.bdPend <;> simp [State.completePhase, h]
@[simp] theorem State.completePhase_script (s : State) (raw rx : Byte) :
    (s.completePhase raw rx).script = s.script := by
  cases h : s.bdPend <;> simp [State.completePhase, h]
@[simp] theorem State.completePhase_draws (s : State) (raw rx : Byte) :
    (s.completePhase raw rx).draws = s.draws := by
  cases h : s.bdPend <;> simp [State.completePhase, h]
theorem State.completePhase_rxd_read (s : State) (raw rx : Byte) (ack : Bool) (h : s.bdPend = .read ack) :
    (s.completePhase raw rx).rxd = some rx := by simp [State.completePhase, h]
theorem State.completePhase_rxd_other (s : State) (raw rx : Byte) (h : ∀ ack, s.bdPend ≠ .read ack) :
    (s.completePhase raw rx).rxd = s.rxd := by
  cases hp : s.bdPend with
  | read ack => exact absurd hp (h ack)
  | none => simp [State.completePhase, hp]
  | start => simp [State.completePhase, hp]
  | write b => simp [State.completePhase, hp]

/-! ### `State.countTick`: A tick (R190). -/

@[simp] theorem State.countTick_cfg (s : State) : s.countTick.cfg = s.cfg := rfl
@[simp] theorem State.countTick_cmd (s : State) : s.countTick.cmd = s.cmd := rfl
@[simp] theorem State.countTick_arg (s : State) : s.countTick.arg = s.arg := rfl
@[simp] theorem State.countTick_result (s : State) : s.countTick.result = s.result := rfl
@[simp] theorem State.countTick_busy (s : State) : s.countTick.busy = s.busy := rfl
@[simp] theorem State.countTick_resp (s : State) : s.countTick.resp = s.resp := rfl
@[simp] theorem State.countTick_ctl (s : State) : s.countTick.ctl = s.ctl := rfl
@[simp] theorem State.countTick_bdEn (s : State) : s.countTick.bdEn = s.bdEn := rfl
@[simp] theorem State.countTick_bdPend (s : State) : s.countTick.bdPend = s.bdPend := rfl
@[simp] theorem State.countTick_stat (s : State) : s.countTick.stat = s.stat := rfl
@[simp] theorem State.countTick_rxd (s : State) : s.countTick.rxd = s.rxd := rfl
@[simp] theorem State.countTick_tbCfg (s : State) : s.countTick.tbCfg = s.tbCfg := rfl
@[simp] theorem State.countTick_tbRun (s : State) : s.countTick.tbRun = s.tbRun := rfl
@[simp] theorem State.countTick_cnt (s : State) : s.countTick.cnt = (s.cnt + 1) % 2 ^ s.cfg.tbWidth := rfl
@[simp] theorem State.countTick_buf (s : State) : s.countTick.buf = s.buf := rfl
@[simp] theorem State.countTick_scale (s : State) : s.countTick.scale = s.scale := rfl
@[simp] theorem State.countTick_en (s : State) : s.countTick.en = s.en := rfl
@[simp] theorem State.countTick_hb (s : State) : s.countTick.hb = s.hb := rfl
@[simp] theorem State.countTick_busTrace (s : State) : s.countTick.busTrace = s.busTrace := rfl
@[simp] theorem State.countTick_outTrace (s : State) : s.countTick.outTrace = s.outTrace := rfl
@[simp] theorem State.countTick_fault (s : State) : s.countTick.fault = s.fault := rfl
@[simp] theorem State.countTick_hostProg (s : State) : s.countTick.hostProg = s.hostProg := rfl
@[simp] theorem State.countTick_hostData (s : State) : s.countTick.hostData = s.hostData := rfl
@[simp] theorem State.countTick_script (s : State) : s.countTick.script = s.script := rfl
@[simp] theorem State.countTick_draws (s : State) : s.countTick.draws = s.draws := rfl

/-! ### `State.writeCell`: A Buffer write (R65). -/

@[simp] theorem State.writeCell_cfg (s : State) (i : Fin 243) (d : Duty) : (s.writeCell i d).cfg = s.cfg := rfl
@[simp] theorem State.writeCell_cmd (s : State) (i : Fin 243) (d : Duty) : (s.writeCell i d).cmd = s.cmd := rfl
@[simp] theorem State.writeCell_arg (s : State) (i : Fin 243) (d : Duty) : (s.writeCell i d).arg = s.arg := rfl
@[simp] theorem State.writeCell_result (s : State) (i : Fin 243) (d : Duty) :
    (s.writeCell i d).result = s.result := rfl
@[simp] theorem State.writeCell_busy (s : State) (i : Fin 243) (d : Duty) : (s.writeCell i d).busy = s.busy := rfl
@[simp] theorem State.writeCell_resp (s : State) (i : Fin 243) (d : Duty) : (s.writeCell i d).resp = s.resp := rfl
@[simp] theorem State.writeCell_ctl (s : State) (i : Fin 243) (d : Duty) : (s.writeCell i d).ctl = s.ctl := rfl
@[simp] theorem State.writeCell_bdEn (s : State) (i : Fin 243) (d : Duty) : (s.writeCell i d).bdEn = s.bdEn := rfl
@[simp] theorem State.writeCell_bdPend (s : State) (i : Fin 243) (d : Duty) :
    (s.writeCell i d).bdPend = s.bdPend := rfl
@[simp] theorem State.writeCell_stat (s : State) (i : Fin 243) (d : Duty) : (s.writeCell i d).stat = s.stat := rfl
@[simp] theorem State.writeCell_rxd (s : State) (i : Fin 243) (d : Duty) : (s.writeCell i d).rxd = s.rxd := rfl
@[simp] theorem State.writeCell_tbCfg (s : State) (i : Fin 243) (d : Duty) :
    (s.writeCell i d).tbCfg = s.tbCfg := rfl
@[simp] theorem State.writeCell_tbRun (s : State) (i : Fin 243) (d : Duty) :
    (s.writeCell i d).tbRun = s.tbRun := rfl
@[simp] theorem State.writeCell_cnt (s : State) (i : Fin 243) (d : Duty) : (s.writeCell i d).cnt = s.cnt := rfl
@[simp] theorem State.writeCell_buf (s : State) (i : Fin 243) (d : Duty) :
    (s.writeCell i d).buf = s.buf.set i d := rfl
@[simp] theorem State.writeCell_scale (s : State) (i : Fin 243) (d : Duty) :
    (s.writeCell i d).scale = s.scale := rfl
@[simp] theorem State.writeCell_en (s : State) (i : Fin 243) (d : Duty) : (s.writeCell i d).en = s.en := rfl
@[simp] theorem State.writeCell_hb (s : State) (i : Fin 243) (d : Duty) : (s.writeCell i d).hb = s.hb := rfl
@[simp] theorem State.writeCell_busTrace (s : State) (i : Fin 243) (d : Duty) :
    (s.writeCell i d).busTrace = s.busTrace := rfl
@[simp] theorem State.writeCell_outTrace (s : State) (i : Fin 243) (d : Duty) :
    (s.writeCell i d).outTrace = s.outTrace := rfl
@[simp] theorem State.writeCell_fault (s : State) (i : Fin 243) (d : Duty) :
    (s.writeCell i d).fault = s.fault := rfl
@[simp] theorem State.writeCell_hostProg (s : State) (i : Fin 243) (d : Duty) :
    (s.writeCell i d).hostProg = s.hostProg := rfl
@[simp] theorem State.writeCell_hostData (s : State) (i : Fin 243) (d : Duty) :
    (s.writeCell i d).hostData = s.hostData := rfl
@[simp] theorem State.writeCell_script (s : State) (i : Fin 243) (d : Duty) :
    (s.writeCell i d).script = s.script := rfl
@[simp] theorem State.writeCell_draws (s : State) (i : Fin 243) (d : Duty) :
    (s.writeCell i d).draws = s.draws := rfl

/-! ### `State.clearBuf`: The Buffer's clear (R210). -/

@[simp] theorem State.clearBuf_cfg (s : State) : s.clearBuf.cfg = s.cfg := rfl
@[simp] theorem State.clearBuf_cmd (s : State) : s.clearBuf.cmd = s.cmd := rfl
@[simp] theorem State.clearBuf_arg (s : State) : s.clearBuf.arg = s.arg := rfl
@[simp] theorem State.clearBuf_result (s : State) : s.clearBuf.result = s.result := rfl
@[simp] theorem State.clearBuf_busy (s : State) : s.clearBuf.busy = s.busy := rfl
@[simp] theorem State.clearBuf_resp (s : State) : s.clearBuf.resp = s.resp := rfl
@[simp] theorem State.clearBuf_ctl (s : State) : s.clearBuf.ctl = s.ctl := rfl
@[simp] theorem State.clearBuf_bdEn (s : State) : s.clearBuf.bdEn = s.bdEn := rfl
@[simp] theorem State.clearBuf_bdPend (s : State) : s.clearBuf.bdPend = s.bdPend := rfl
@[simp] theorem State.clearBuf_stat (s : State) : s.clearBuf.stat = s.stat := rfl
@[simp] theorem State.clearBuf_rxd (s : State) : s.clearBuf.rxd = s.rxd := rfl
@[simp] theorem State.clearBuf_tbCfg (s : State) : s.clearBuf.tbCfg = s.tbCfg := rfl
@[simp] theorem State.clearBuf_tbRun (s : State) : s.clearBuf.tbRun = s.tbRun := rfl
@[simp] theorem State.clearBuf_cnt (s : State) : s.clearBuf.cnt = s.cnt := rfl
@[simp] theorem State.clearBuf_buf (s : State) : s.clearBuf.buf = Vector.replicate 243 0 := rfl
@[simp] theorem State.clearBuf_scale (s : State) : s.clearBuf.scale = s.scale := rfl
@[simp] theorem State.clearBuf_en (s : State) : s.clearBuf.en = s.en := rfl
@[simp] theorem State.clearBuf_hb (s : State) : s.clearBuf.hb = s.hb := rfl
@[simp] theorem State.clearBuf_busTrace (s : State) : s.clearBuf.busTrace = s.busTrace := rfl
@[simp] theorem State.clearBuf_outTrace (s : State) : s.clearBuf.outTrace = s.outTrace := rfl
@[simp] theorem State.clearBuf_fault (s : State) : s.clearBuf.fault = s.fault := rfl
@[simp] theorem State.clearBuf_hostProg (s : State) : s.clearBuf.hostProg = s.hostProg := rfl
@[simp] theorem State.clearBuf_hostData (s : State) : s.clearBuf.hostData = s.hostData := rfl
@[simp] theorem State.clearBuf_script (s : State) : s.clearBuf.script = s.script := rfl
@[simp] theorem State.clearBuf_draws (s : State) : s.clearBuf.draws = s.draws := rfl

/-! ### `State.noData`: A Host access that gives no word. -/

@[simp] theorem State.noData_cfg (s : State) : s.noData.cfg = s.cfg := rfl
@[simp] theorem State.noData_cmd (s : State) : s.noData.cmd = s.cmd := rfl
@[simp] theorem State.noData_arg (s : State) : s.noData.arg = s.arg := rfl
@[simp] theorem State.noData_result (s : State) : s.noData.result = s.result := rfl
@[simp] theorem State.noData_busy (s : State) : s.noData.busy = s.busy := rfl
@[simp] theorem State.noData_resp (s : State) : s.noData.resp = s.resp := rfl
@[simp] theorem State.noData_ctl (s : State) : s.noData.ctl = s.ctl := rfl
@[simp] theorem State.noData_bdEn (s : State) : s.noData.bdEn = s.bdEn := rfl
@[simp] theorem State.noData_bdPend (s : State) : s.noData.bdPend = s.bdPend := rfl
@[simp] theorem State.noData_stat (s : State) : s.noData.stat = s.stat := rfl
@[simp] theorem State.noData_rxd (s : State) : s.noData.rxd = s.rxd := rfl
@[simp] theorem State.noData_tbCfg (s : State) : s.noData.tbCfg = s.tbCfg := rfl
@[simp] theorem State.noData_tbRun (s : State) : s.noData.tbRun = s.tbRun := rfl
@[simp] theorem State.noData_cnt (s : State) : s.noData.cnt = s.cnt := rfl
@[simp] theorem State.noData_buf (s : State) : s.noData.buf = s.buf := rfl
@[simp] theorem State.noData_scale (s : State) : s.noData.scale = s.scale := rfl
@[simp] theorem State.noData_en (s : State) : s.noData.en = s.en := rfl
@[simp] theorem State.noData_hb (s : State) : s.noData.hb = s.hb := rfl
@[simp] theorem State.noData_busTrace (s : State) : s.noData.busTrace = s.busTrace := rfl
@[simp] theorem State.noData_outTrace (s : State) : s.noData.outTrace = s.outTrace := rfl
@[simp] theorem State.noData_fault (s : State) : s.noData.fault = s.fault := rfl
@[simp] theorem State.noData_hostProg (s : State) : s.noData.hostProg = s.hostProg := rfl
@[simp] theorem State.noData_hostData (s : State) : s.noData.hostData = none := rfl
@[simp] theorem State.noData_script (s : State) : s.noData.script = s.script := rfl
@[simp] theorem State.noData_draws (s : State) : s.noData.draws = s.draws := rfl

/-! ### `State.answer`: A Host read's word (R64). -/

@[simp] theorem State.answer_cfg (s : State) (w : Word) : (s.answer w).cfg = s.cfg := rfl
@[simp] theorem State.answer_cmd (s : State) (w : Word) : (s.answer w).cmd = s.cmd := rfl
@[simp] theorem State.answer_arg (s : State) (w : Word) : (s.answer w).arg = s.arg := rfl
@[simp] theorem State.answer_result (s : State) (w : Word) : (s.answer w).result = s.result := rfl
@[simp] theorem State.answer_busy (s : State) (w : Word) : (s.answer w).busy = s.busy := rfl
@[simp] theorem State.answer_resp (s : State) (w : Word) : (s.answer w).resp = s.resp := rfl
@[simp] theorem State.answer_ctl (s : State) (w : Word) : (s.answer w).ctl = s.ctl := rfl
@[simp] theorem State.answer_bdEn (s : State) (w : Word) : (s.answer w).bdEn = s.bdEn := rfl
@[simp] theorem State.answer_bdPend (s : State) (w : Word) : (s.answer w).bdPend = s.bdPend := rfl
@[simp] theorem State.answer_stat (s : State) (w : Word) : (s.answer w).stat = s.stat := rfl
@[simp] theorem State.answer_rxd (s : State) (w : Word) : (s.answer w).rxd = s.rxd := rfl
@[simp] theorem State.answer_tbCfg (s : State) (w : Word) : (s.answer w).tbCfg = s.tbCfg := rfl
@[simp] theorem State.answer_tbRun (s : State) (w : Word) : (s.answer w).tbRun = s.tbRun := rfl
@[simp] theorem State.answer_cnt (s : State) (w : Word) : (s.answer w).cnt = s.cnt := rfl
@[simp] theorem State.answer_buf (s : State) (w : Word) : (s.answer w).buf = s.buf := rfl
@[simp] theorem State.answer_scale (s : State) (w : Word) : (s.answer w).scale = s.scale := rfl
@[simp] theorem State.answer_en (s : State) (w : Word) : (s.answer w).en = s.en := rfl
@[simp] theorem State.answer_hb (s : State) (w : Word) : (s.answer w).hb = s.hb := rfl
@[simp] theorem State.answer_busTrace (s : State) (w : Word) : (s.answer w).busTrace = s.busTrace := rfl
@[simp] theorem State.answer_outTrace (s : State) (w : Word) : (s.answer w).outTrace = s.outTrace := rfl
@[simp] theorem State.answer_fault (s : State) (w : Word) : (s.answer w).fault = s.fault := rfl
@[simp] theorem State.answer_hostProg (s : State) (w : Word) : (s.answer w).hostProg = s.hostProg := rfl
@[simp] theorem State.answer_hostData (s : State) (w : Word) : (s.answer w).hostData = some w := rfl
@[simp] theorem State.answer_script (s : State) (w : Word) : (s.answer w).script = s.script := rfl
@[simp] theorem State.answer_draws (s : State) (w : Word) : (s.answer w).draws = s.draws := rfl

/-! ### `State.startCommand`: A CMD write (R24). -/

@[simp] theorem State.startCommand_cfg (s : State) (w : Word) : (s.startCommand w).cfg = s.cfg := rfl
@[simp] theorem State.startCommand_cmd (s : State) (w : Word) : (s.startCommand w).cmd = w := rfl
@[simp] theorem State.startCommand_arg (s : State) (w : Word) : (s.startCommand w).arg = s.arg := rfl
@[simp] theorem State.startCommand_result (s : State) (w : Word) : (s.startCommand w).result = s.result := rfl
@[simp] theorem State.startCommand_busy (s : State) (w : Word) : (s.startCommand w).busy = true := rfl
@[simp] theorem State.startCommand_resp (s : State) (w : Word) : (s.startCommand w).resp = s.resp := rfl
@[simp] theorem State.startCommand_ctl (s : State) (w : Word) : (s.startCommand w).ctl = .start := rfl
@[simp] theorem State.startCommand_bdEn (s : State) (w : Word) : (s.startCommand w).bdEn = s.bdEn := rfl
@[simp] theorem State.startCommand_bdPend (s : State) (w : Word) : (s.startCommand w).bdPend = s.bdPend := rfl
@[simp] theorem State.startCommand_stat (s : State) (w : Word) : (s.startCommand w).stat = s.stat := rfl
@[simp] theorem State.startCommand_rxd (s : State) (w : Word) : (s.startCommand w).rxd = s.rxd := rfl
@[simp] theorem State.startCommand_tbCfg (s : State) (w : Word) : (s.startCommand w).tbCfg = s.tbCfg := rfl
@[simp] theorem State.startCommand_tbRun (s : State) (w : Word) : (s.startCommand w).tbRun = s.tbRun := rfl
@[simp] theorem State.startCommand_cnt (s : State) (w : Word) : (s.startCommand w).cnt = s.cnt := rfl
@[simp] theorem State.startCommand_buf (s : State) (w : Word) : (s.startCommand w).buf = s.buf := rfl
@[simp] theorem State.startCommand_scale (s : State) (w : Word) : (s.startCommand w).scale = s.scale := rfl
@[simp] theorem State.startCommand_en (s : State) (w : Word) : (s.startCommand w).en = s.en := rfl
@[simp] theorem State.startCommand_hb (s : State) (w : Word) : (s.startCommand w).hb = s.hb := rfl
@[simp] theorem State.startCommand_busTrace (s : State) (w : Word) :
    (s.startCommand w).busTrace = s.busTrace := rfl
@[simp] theorem State.startCommand_outTrace (s : State) (w : Word) :
    (s.startCommand w).outTrace = s.outTrace := rfl
@[simp] theorem State.startCommand_fault (s : State) (w : Word) : (s.startCommand w).fault = s.fault := rfl
@[simp] theorem State.startCommand_hostProg (s : State) (w : Word) :
    (s.startCommand w).hostProg = s.hostProg := rfl
@[simp] theorem State.startCommand_hostData (s : State) (w : Word) :
    (s.startCommand w).hostData = s.hostData := rfl
@[simp] theorem State.startCommand_script (s : State) (w : Word) : (s.startCommand w).script = s.script := rfl
@[simp] theorem State.startCommand_draws (s : State) (w : Word) : (s.startCommand w).draws = s.draws := rfl

/-! ### `State.storeArg`: An ARG write (R64). -/

@[simp] theorem State.storeArg_cfg (s : State) (w : Word) : (s.storeArg w).cfg = s.cfg := rfl
@[simp] theorem State.storeArg_cmd (s : State) (w : Word) : (s.storeArg w).cmd = s.cmd := rfl
@[simp] theorem State.storeArg_arg (s : State) (w : Word) : (s.storeArg w).arg = w := rfl
@[simp] theorem State.storeArg_result (s : State) (w : Word) : (s.storeArg w).result = s.result := rfl
@[simp] theorem State.storeArg_busy (s : State) (w : Word) : (s.storeArg w).busy = s.busy := rfl
@[simp] theorem State.storeArg_resp (s : State) (w : Word) : (s.storeArg w).resp = s.resp := rfl
@[simp] theorem State.storeArg_ctl (s : State) (w : Word) : (s.storeArg w).ctl = s.ctl := rfl
@[simp] theorem State.storeArg_bdEn (s : State) (w : Word) : (s.storeArg w).bdEn = s.bdEn := rfl
@[simp] theorem State.storeArg_bdPend (s : State) (w : Word) : (s.storeArg w).bdPend = s.bdPend := rfl
@[simp] theorem State.storeArg_stat (s : State) (w : Word) : (s.storeArg w).stat = s.stat := rfl
@[simp] theorem State.storeArg_rxd (s : State) (w : Word) : (s.storeArg w).rxd = s.rxd := rfl
@[simp] theorem State.storeArg_tbCfg (s : State) (w : Word) : (s.storeArg w).tbCfg = s.tbCfg := rfl
@[simp] theorem State.storeArg_tbRun (s : State) (w : Word) : (s.storeArg w).tbRun = s.tbRun := rfl
@[simp] theorem State.storeArg_cnt (s : State) (w : Word) : (s.storeArg w).cnt = s.cnt := rfl
@[simp] theorem State.storeArg_buf (s : State) (w : Word) : (s.storeArg w).buf = s.buf := rfl
@[simp] theorem State.storeArg_scale (s : State) (w : Word) : (s.storeArg w).scale = s.scale := rfl
@[simp] theorem State.storeArg_en (s : State) (w : Word) : (s.storeArg w).en = s.en := rfl
@[simp] theorem State.storeArg_hb (s : State) (w : Word) : (s.storeArg w).hb = s.hb := rfl
@[simp] theorem State.storeArg_busTrace (s : State) (w : Word) : (s.storeArg w).busTrace = s.busTrace := rfl
@[simp] theorem State.storeArg_outTrace (s : State) (w : Word) : (s.storeArg w).outTrace = s.outTrace := rfl
@[simp] theorem State.storeArg_fault (s : State) (w : Word) : (s.storeArg w).fault = s.fault := rfl
@[simp] theorem State.storeArg_hostProg (s : State) (w : Word) : (s.storeArg w).hostProg = s.hostProg := rfl
@[simp] theorem State.storeArg_hostData (s : State) (w : Word) : (s.storeArg w).hostData = s.hostData := rfl
@[simp] theorem State.storeArg_script (s : State) (w : Word) : (s.storeArg w).script = s.script := rfl
@[simp] theorem State.storeArg_draws (s : State) (w : Word) : (s.storeArg w).draws = s.draws := rfl

/-! ### `State.setProg`: The Host's program moves on. -/

@[simp] theorem State.setProg_cfg (s : State) (p : List HostOp) : (s.setProg p).cfg = s.cfg := rfl
@[simp] theorem State.setProg_cmd (s : State) (p : List HostOp) : (s.setProg p).cmd = s.cmd := rfl
@[simp] theorem State.setProg_arg (s : State) (p : List HostOp) : (s.setProg p).arg = s.arg := rfl
@[simp] theorem State.setProg_result (s : State) (p : List HostOp) : (s.setProg p).result = s.result := rfl
@[simp] theorem State.setProg_busy (s : State) (p : List HostOp) : (s.setProg p).busy = s.busy := rfl
@[simp] theorem State.setProg_resp (s : State) (p : List HostOp) : (s.setProg p).resp = s.resp := rfl
@[simp] theorem State.setProg_ctl (s : State) (p : List HostOp) : (s.setProg p).ctl = s.ctl := rfl
@[simp] theorem State.setProg_bdEn (s : State) (p : List HostOp) : (s.setProg p).bdEn = s.bdEn := rfl
@[simp] theorem State.setProg_bdPend (s : State) (p : List HostOp) : (s.setProg p).bdPend = s.bdPend := rfl
@[simp] theorem State.setProg_stat (s : State) (p : List HostOp) : (s.setProg p).stat = s.stat := rfl
@[simp] theorem State.setProg_rxd (s : State) (p : List HostOp) : (s.setProg p).rxd = s.rxd := rfl
@[simp] theorem State.setProg_tbCfg (s : State) (p : List HostOp) : (s.setProg p).tbCfg = s.tbCfg := rfl
@[simp] theorem State.setProg_tbRun (s : State) (p : List HostOp) : (s.setProg p).tbRun = s.tbRun := rfl
@[simp] theorem State.setProg_cnt (s : State) (p : List HostOp) : (s.setProg p).cnt = s.cnt := rfl
@[simp] theorem State.setProg_buf (s : State) (p : List HostOp) : (s.setProg p).buf = s.buf := rfl
@[simp] theorem State.setProg_scale (s : State) (p : List HostOp) : (s.setProg p).scale = s.scale := rfl
@[simp] theorem State.setProg_en (s : State) (p : List HostOp) : (s.setProg p).en = s.en := rfl
@[simp] theorem State.setProg_hb (s : State) (p : List HostOp) : (s.setProg p).hb = s.hb := rfl
@[simp] theorem State.setProg_busTrace (s : State) (p : List HostOp) : (s.setProg p).busTrace = s.busTrace := rfl
@[simp] theorem State.setProg_outTrace (s : State) (p : List HostOp) : (s.setProg p).outTrace = s.outTrace := rfl
@[simp] theorem State.setProg_fault (s : State) (p : List HostOp) : (s.setProg p).fault = s.fault := rfl
@[simp] theorem State.setProg_hostProg (s : State) (p : List HostOp) : (s.setProg p).hostProg = p := rfl
@[simp] theorem State.setProg_hostData (s : State) (p : List HostOp) : (s.setProg p).hostData = s.hostData := rfl
@[simp] theorem State.setProg_script (s : State) (p : List HostOp) : (s.setProg p).script = s.script := rfl
@[simp] theorem State.setProg_draws (s : State) (p : List HostOp) : (s.setProg p).draws = s.draws := rfl

/-! ### `State.powerOn`: Power-on reset (R260, R261). -/

@[simp] theorem State.powerOn_cfg (s : State) : s.powerOn.cfg = s.cfg := rfl
@[simp] theorem State.powerOn_cmd (s : State) : s.powerOn.cmd = 0 := rfl
@[simp] theorem State.powerOn_arg (s : State) : s.powerOn.arg = 0 := rfl
@[simp] theorem State.powerOn_result (s : State) : s.powerOn.result = 0 := rfl
@[simp] theorem State.powerOn_busy (s : State) : s.powerOn.busy = false := rfl
@[simp] theorem State.powerOn_resp (s : State) : s.powerOn.resp = .ok := rfl
@[simp] theorem State.powerOn_ctl (s : State) : s.powerOn.ctl = .idle := rfl
@[simp] theorem State.powerOn_bdEn (s : State) : s.powerOn.bdEn = false := rfl
@[simp] theorem State.powerOn_bdPend (s : State) : s.powerOn.bdPend = .none := rfl
@[simp] theorem State.powerOn_stat (s : State) : s.powerOn.stat = none := rfl
@[simp] theorem State.powerOn_rxd (s : State) : s.powerOn.rxd = none := rfl
@[simp] theorem State.powerOn_tbCfg (s : State) : s.powerOn.tbCfg = false := rfl
@[simp] theorem State.powerOn_tbRun (s : State) : s.powerOn.tbRun = false := rfl
@[simp] theorem State.powerOn_cnt (s : State) : s.powerOn.cnt = 0 := rfl
@[simp] theorem State.powerOn_buf (s : State) : s.powerOn.buf = Vector.ofFn (Config.drawCell s.draws) := rfl
@[simp] theorem State.powerOn_scale (s : State) : s.powerOn.scale = 0x00010000 := rfl
@[simp] theorem State.powerOn_en (s : State) : s.powerOn.en = 0 := rfl
@[simp] theorem State.powerOn_hb (s : State) : s.powerOn.hb = false := rfl
@[simp] theorem State.powerOn_busTrace (s : State) : s.powerOn.busTrace = [] := rfl
@[simp] theorem State.powerOn_outTrace (s : State) : s.powerOn.outTrace = [] := rfl
@[simp] theorem State.powerOn_fault (s : State) : s.powerOn.fault = none := rfl
@[simp] theorem State.powerOn_hostProg (s : State) : s.powerOn.hostProg = s.hostProg := rfl
@[simp] theorem State.powerOn_hostData (s : State) : s.powerOn.hostData = s.hostData := rfl
@[simp] theorem State.powerOn_script (s : State) : s.powerOn.script = s.script := rfl
@[simp] theorem State.powerOn_draws (s : State) : s.powerOn.draws = s.draws + 1 := rfl

end Sys2Proof.Machine
end

