-- ==== Sys2Proof/Laws/Controller.lean ====
section
/-! SUPPORT. What one step of the Controller can do, said once for each shared operation: whatever leads up to it, the
step ends in a response, in the fault of R237, or in one bus phase issued (R21, R24, R102). -/

namespace Sys2Proof.Machine

/-- `m` differs from `s` only in what the Controller may write on the way to the end of its step.
Without a sweep (`scan = false`) that is the bus history, the status and the draws. -/
structure Prep (scan : Bool) (s m : State) : Prop where
  frame : m = { s with
    draws := m.draws, busTrace := m.busTrace, stat := m.stat, en := m.en, hb := m.hb, outTrace := m.outTrace,
    tbRun := m.tbRun, cnt := m.cnt }
  bus : ∃ es, m.busTrace = s.busTrace ++ es
  out : ∃ es, m.outTrace = s.outTrace ++ es
  quiet : scan = false →
    m.en = s.en ∧ m.hb = s.hb ∧ m.outTrace = s.outTrace ∧ m.tbRun = s.tbRun ∧ m.cnt = s.cnt

/-- How a Controller step ends from `m` on: `respond`, the fault of R237, or a bus phase issued. -/
inductive EndsAs (m : State) : State → Prop where
  | respond (c : Resp) (r : Word) : EndsAs m (m.respond c r)
  | disabled (h : m.bdEn = false) : EndsAs m (m.raise .busNotEnabled)
  | issue (e : BusEvent) (p : Pend) (w : Wait) (h : m.bdEn = true) (hp : p ≠ .none) : EndsAs m (m.issue e p w)

/-- The step that leads from `s` to `t` prepares some `m` and ends there. -/
def Ends (scan : Bool) (s t : State) : Prop := ∃ m, Prep scan s m ∧ EndsAs m t

theorem Prep.refl (scan : Bool) (s : State) : Prep scan s s :=
  ⟨rfl, ⟨[], by simp⟩, ⟨[], by simp⟩, fun _ => ⟨rfl, rfl, rfl, rfl, rfl⟩⟩

theorem Prep.trans {scan : Bool} {s m u : State} (h : Prep scan s m) (g : Prep scan m u) : Prep scan s u := by
  obtain ⟨hf, ⟨e1, h1⟩, ⟨e2, h2⟩, hq⟩ := h
  obtain ⟨gf, ⟨d1, g1⟩, ⟨d2, g2⟩, gq⟩ := g
  refine ⟨?_, ⟨e1 ++ d1, by rw [g1, h1, List.append_assoc]⟩, ⟨e2 ++ d2, by rw [g2, h2, List.append_assoc]⟩, fun hs => ?_⟩
  · rw [gf, hf]
  · obtain ⟨a, b, c, d, e⟩ := hq hs
    obtain ⟨a', b', c', d', e'⟩ := gq hs
    exact ⟨a'.trans a, b'.trans b, c'.trans c, d'.trans d, e'.trans e⟩

theorem Prep.weaken {s m : State} (scan : Bool) (h : Prep false s m) : Prep scan s m :=
  ⟨h.frame, h.bus, h.out, fun _ => h.quiet rfl⟩

theorem Ends.after {scan : Bool} {s m t : State} (h : Prep scan s m) : Ends scan m t → Ends scan s t
  | ⟨u, hu, he⟩ => ⟨u, h.trans hu, he⟩

theorem Ends.weaken {s t : State} (scan : Bool) : Ends false s t → Ends scan s t
  | ⟨u, hu, he⟩ => ⟨u, hu.weaken scan, he⟩

/-! ### The preparations -/

theorem prep_drew (scan : Bool) (s : State) : Prep scan s s.drew :=
  ⟨rfl, ⟨[], by simp⟩, ⟨[], by simp⟩, fun _ => ⟨rfl, rfl, rfl, rfl, rfl⟩⟩

theorem prep_issueStop (scan : Bool) (s : State) : Prep scan s s.issueStop :=
  ⟨rfl, ⟨[.stop], rfl⟩, ⟨[], by simp⟩, fun _ => ⟨rfl, rfl, rfl, rfl, rfl⟩⟩

theorem prep_setEn (s : State) (v : Enables) : Prep true s (s.setEn v) :=
  ⟨rfl, ⟨[], by simp⟩, ⟨[.en v], rfl⟩, fun h => nomatch h⟩

theorem prep_toggleHb (s : State) : Prep true s s.toggleHb :=
  ⟨rfl, ⟨[], by simp⟩, ⟨[.hb !s.hb], rfl⟩, fun h => nomatch h⟩

theorem prep_readStat (scan : Bool) (s : State) : Prep scan s s.readStat.2 := by
  unfold State.readStat
  split
  · exact .refl scan s
  · exact prep_drew scan s

theorem prep_readRxd (scan : Bool) (s : State) : Prep scan s s.readRxd.2 := by
  unfold State.readRxd
  split
  · exact .refl scan s
  · exact prep_drew scan s

/-! ### The shared operations -/

theorem respond_ends (scan : Bool) (s : State) (c : Resp) (r : Word) : Ends scan s (s.respond c r) :=
  ⟨s, .refl scan s, .respond c r⟩

theorem busPhase_ends (scan : Bool) (s : State) (e : BusEvent) (p : Pend) (w : Wait) (hp : p ≠ .none) :
    Ends scan s (s.busPhase e p w) := by
  unfold State.busPhase
  split
  · next h => exact ⟨s, .refl scan s, .issue e p w h hp⟩
  · next h => exact ⟨s, .refl scan s, .disabled (Bool.eq_false_iff.mpr h)⟩

/-- What a bus procedure that waits leaves alone: all but the bus history, the pending phase, the control point and the
fault (R104). -/
theorem busPhase_frame (s : State) (e : BusEvent) (p : Pend) (w : Wait) :
    s.busPhase e p w = { s with
      busTrace := (s.busPhase e p w).busTrace, bdPend := (s.busPhase e p w).bdPend, ctl := (s.busPhase e p w).ctl,
      fault := (s.busPhase e p w).fault } := by
  unfold State.busPhase
  split
  · rfl
  · unfold State.raise
    split <;> rfl

theorem busStop_ends (scan : Bool) (s : State) (next : State → State)
    (h : Ends scan s.issueStop (next s.issueStop)) : Ends scan s (s.busStop next) := by
  unfold State.busStop
  split
  · exact .after (prep_issueStop scan s) h
  · next h => exact ⟨s, .refl scan s, .disabled (Bool.eq_false_iff.mpr h)⟩

theorem writeRegister_ends (scan : Bool) (s : State) (a : ChipAddr) (g v : Byte) (who : Caller) :
    Ends scan s (s.writeRegister a g v who) :=
  busPhase_ends scan s _ _ _ nofun

theorem endWriteReg_ends (scan : Bool) (s : State) (e : TxnEnd) : Ends scan s (s.endWriteReg e) := by
  unfold State.endWriteReg
  split <;> exact respond_ends scan s _ _

theorem initWrite_ends (scan : Bool) (s : State) (a : ChipAddr) (idx : Nat) : Ends scan s (s.initWrite a idx) := by
  unfold State.initWrite
  split
  · exact writeRegister_ends scan s _ _ _ _
  · exact respond_ends scan s _ _

theorem endInitWrite_ends (scan : Bool) (s : State) (a : ChipAddr) (idx : Nat) (e : TxnEnd) :
    Ends scan s (s.endInitWrite a idx e) := by
  unfold State.endInitWrite
  split <;> exact initWrite_ends scan s _ _

theorem scanTxn_ends (scan : Bool) (s : State) (se : Scan) : Ends scan s (s.scanTxn se) :=
  writeRegister_ends scan s _ _ _ _

/-- A transaction's first step leaves alone what a bus procedure does. -/
theorem scanTxn_frame (s : State) (se : Scan) :
    s.scanTxn se = { s with
      busTrace := (s.scanTxn se).busTrace, bdPend := (s.scanTxn se).bdPend, ctl := (s.scanTxn se).ctl,
      fault := (s.scanTxn se).fault } :=
  busPhase_frame s _ _ _

theorem scanColumn_ends (s : State) (se : Scan) : Ends true s (s.scanColumn se) :=
  .after (prep_setEn s _) (scanTxn_ends true _ se)

theorem scanPass_ends (s : State) (se : Scan) : Ends true s (s.scanPass se) :=
  .after (prep_toggleHb s) (scanColumn_ends _ _)

theorem scanTest_ends (s : State) (se : Scan) : Ends true s (s.scanTest se) := by
  unfold State.scanTest
  split
  · exact scanPass_ends s se
  · refine .after ?_ (respond_ends true _ _ _)
    refine .trans ⟨rfl, ⟨[], by simp⟩, ⟨[], by simp⟩, fun h => nomatch h⟩ (prep_setEn _ 0)

theorem endScanWrite_ends (s : State) (se : Scan) (e : TxnEnd) : Ends true s (s.endScanWrite se e) := by
  unfold State.endScanWrite
  dsimp only
  split
  · exact scanTxn_ends true s _
  · exact scanColumn_ends s _
  · exact scanTest_ends s _

/-- What SWEEP does after a transaction: the failure counted or not, then the next transaction, the next column, or the
loop test (R155, R158, R159). -/
theorem endScanWrite_cases (s : State) (se : Scan) (e : TxnEnd) :
    ∃ x : Scan, x = { se with fails := x.fails } ∧
      x.fails = (if e.ok then se.fails else countFail se.fails) ∧
      ((∃ y, x.next = .sameColumn y ∧ s.endScanWrite se e = s.scanTxn y) ∨
        (∃ y, x.next = .nextColumn y ∧ s.endScanWrite se e = s.scanColumn y) ∨
        (x.next = .passEnd ∧ s.endScanWrite se e = s.scanTest x)) := by
  obtain ⟨x, hx⟩ : ∃ x : Scan, x = if e.ok then se else { se with fails := countFail se.fails } := ⟨_, rfl⟩
  refine ⟨x, by rw [hx]; split <;> rfl, by rw [hx]; split <;> rfl, ?_⟩
  unfold State.endScanWrite
  rw [← hx]
  cases h : x.next with
  | sameColumn y => exact .inl ⟨y, rfl, by simp only [h]⟩
  | nextColumn y => exact .inr (.inl ⟨y, rfl, by simp only [h]⟩)
  | passEnd => exact .inr (.inr ⟨rfl, by simp only [h]⟩)

/-- Whether a register write belongs to SWEEP. -/
def Caller.scans : Caller → Bool
  | .sweep _ => true
  | .writeReg | .chipInit _ _ => false

theorem endTxn_ends (s : State) (who : Caller) (e : TxnEnd) : Ends who.scans s (s.endTxn who e) := by
  cases who with
  | writeReg => exact endWriteReg_ends false s e
  | chipInit a idx => exact endInitWrite_ends false s a idx e
  | sweep se => exact endScanWrite_ends s se e

theorem checkPhase_ends (scan : Bool) (s : State) (t : Txn) (who : Caller) (back : TxnEnd → State → State)
    (h : ∀ e u, Ends scan u (back e u)) : Ends scan s (s.checkPhase t who back) := by
  refine .after (prep_readStat scan s) ?_
  unfold State.checkPhase
  dsimp only
  split
  · split
    · exact busPhase_ends scan _ _ _ _ nofun
    · exact busPhase_ends scan _ _ _ _ nofun
    · exact busPhase_ends scan _ _ _ _ nofun
    · exact busStop_ends scan _ _ (h _ _)
  · exact h _ _

/-- What a register write does at a completed phase: on a mismatch it returns to its caller; on a match it issues the
next byte, or after the last the STOP and the return (R130, R133). -/
theorem checkPhase_cases (s : State) (t : Txn) (who : Caller) (back : TxnEnd → State → State) :
    (s.readStat.1 ≠ t.ph.expected ∧
      s.checkPhase t who back = back { ok := false, ph := t.ph.number, st := s.readStat.1 } s.readStat.2) ∨
    (s.readStat.1 = t.ph.expected ∧
      ((t.ph = .start ∧ s.checkPhase t who back =
          s.readStat.2.busWrite (slaw t.addr) (.txn { t with ph := .address } who)) ∨
        (t.ph = .address ∧ s.checkPhase t who back =
          s.readStat.2.busWrite t.reg (.txn { t with ph := .register } who)) ∨
        (t.ph = .register ∧ s.checkPhase t who back =
          s.readStat.2.busWrite t.val (.txn { t with ph := .data } who)) ∨
        (t.ph = .data ∧ s.checkPhase t who back =
          s.readStat.2.busStop (back { ok := true, ph := 0, st := 0 })))) := by
  unfold State.checkPhase
  dsimp only
  split
  · next h =>
    refine .inr ⟨h, ?_⟩
    cases hp : t.ph with
    | start => exact .inl ⟨rfl, rfl⟩
    | address => exact .inr (.inl ⟨rfl, rfl⟩)
    | register => exact .inr (.inr (.inl ⟨rfl, rfl⟩))
    | data => exact .inr (.inr (.inr ⟨rfl, rfl⟩))
  · next h => exact .inl ⟨h, rfl⟩

/-- Whether a wait point belongs to SWEEP. -/
def Wait.scans : Wait → Bool
  | .txn _ who => who.scans
  | .respondZero | .respondByte => false

/-- Everything `resume` can do. -/
theorem resume_ends (s : State) (w : Wait) : Ends w.scans s (s.resume w) := by
  cases w with
  | respondZero => exact respond_ends false s _ _
  | respondByte => exact .after (prep_readRxd false s) (respond_ends false _ _ _)
  | txn t who => exact checkPhase_ends who.scans s t who _ fun e u => endTxn_ends u who e

/-- SWEEP's first step: an input error, the fault of R238, or the entry and the first bus phase (R150, R239). -/
theorem scanStart_cases (s : State) :
    (periodOk s.cfg.tbWidth s.arg = false ∧ s.scanStart = s.respond .inputError 0) ∨
    (periodOk s.cfg.tbWidth s.arg = true ∧ s.tbCfg = false ∧ s.scanStart = s.raise .tbNotConfigured) ∨
    (periodOk s.cfg.tbWidth s.arg = true ∧ s.tbCfg = true ∧ Ends true s s.scanStart) := by
  unfold State.scanStart
  split
  · next hp =>
    split
    · next ht =>
      refine .inr (.inr ⟨hp, ht, .after ?_ (scanPass_ends _ _)⟩)
      exact ⟨rfl, ⟨[], by simp⟩, ⟨[], by simp⟩, fun h => nomatch h⟩
    · next ht => exact .inr (.inl ⟨hp, Bool.eq_false_iff.mpr ht, rfl⟩)
  · next hp => exact .inl ⟨Bool.eq_false_iff.mpr hp, rfl⟩

end Sys2Proof.Machine
end

