-- ==== Sys2Proof/Laws/Step.lean ====
section
/-! SUPPORT. What one turn and one step can do: the inversion lemmas the whole-machine claims rest on (R71, R241). -/

namespace Sys2Proof.Machine

/-- The commands that end their first step without the bus, with the update their rule names. -/
def ownUpdate (i : Instr) (s : State) : State :=
  match i with
  | .bdInit => { s with bdEn := true }
  | .tbInit => { s with tbCfg := true }
  | .tbStart => { s with tbRun := true }
  | .tbStop => { s with tbRun := false }
  | .tbClear => { s with cnt := 0 }
  | .bufClear => s.clearBuf
  | .setScale => { s with scale := s.arg }
  | .bufSetBrightness r c h =>
    match cellOf r c h with
    | some k => s.writeCell k s.dutyOfArg
    | none => s
  | .bdStart | .bdStop | .bdWrite _ | .bdReadAck | .bdReadNack | .bdStatus | .rtWriteReg _ _ _ | .chipInit _
  | .tbRead | .bufRead _ _ _ | .sweep => s

/-- The commands that never touch the bus. -/
def offBus : Instr → Bool
  | .bdInit | .tbInit | .tbStart | .tbStop | .tbClear | .tbRead | .bufClear | .bufSetBrightness _ _ _
  | .bufRead _ _ _ | .setScale => true
  | .bdStart | .bdStop | .bdWrite _ | .bdReadAck | .bdReadNack | .bdStatus | .rtWriteReg _ _ _ | .chipInit _
  | .sweep => false

/-- Everything the first step of a command off the bus can do: its own update and a response, a response alone, or the
fault of R238. -/
theorem exec_offBus {i : Instr} {s t : State} (hi : offBus i = true) (h : exec i s = .next t) :
    (∃ c r, t = (ownUpdate i s).respond c r) ∨ (∃ r, t = s.respond .inputError r) ∨
      (i = .tbStart ∧ s.tbCfg = false ∧ t = s.raise .tbNotConfigured) := by
  cases i with
  | bdInit | tbInit | tbStop | tbClear | tbRead | bufClear | setScale =>
    cases h; exact .inl ⟨_, _, rfl⟩
  | tbStart =>
    cases h
    split
    · exact .inl ⟨_, _, rfl⟩
    · next hc => exact .inr (.inr ⟨rfl, Bool.eq_false_iff.mpr hc, rfl⟩)
  | bufSetBrightness r c h' =>
    cases h
    cases hk : cellOf r c h' with
    | none => exact .inr (.inl ⟨0, rfl⟩)
    | some k =>
      dsimp only
      split
      · exact .inl ⟨.ok, s.dutyOfArg.setWidth 32, by simp only [ownUpdate, hk]⟩
      · exact .inr (.inl ⟨0, rfl⟩)
  | bufRead r c h' =>
    cases h
    cases hk : cellOf r c h' with
    | none => exact .inr (.inl ⟨0, rfl⟩)
    | some k => exact .inl ⟨_, _, rfl⟩
  | bdStart | bdStop | bdWrite _ | bdReadAck | bdReadNack | bdStatus | rtWriteReg _ _ _ | chipInit _ | sweep =>
    exact nomatch hi

/-- Everything the first step of a command on the bus can do. -/
theorem exec_onBus {i : Instr} {s t : State} (hi : offBus i = false) (h : exec i s = .next t) :
    (i ≠ .sweep ∧ Ends false s t) ∨ (i = .sweep ∧ t = s.scanStart) := by
  cases i with
  | bdStart | bdWrite _ | bdReadAck | bdReadNack | rtWriteReg _ _ _ =>
    cases h; exact .inl ⟨by simp, busPhase_ends false s _ _ _ nofun⟩
  | bdStop => cases h; exact .inl ⟨by simp, busStop_ends false s _ (respond_ends false _ _ _)⟩
  | bdStatus => cases h; exact .inl ⟨by simp, .after (prep_readStat false s) (respond_ends false _ _ _)⟩
  | chipInit a => cases h; exact .inl ⟨by simp, initWrite_ends false s a 0⟩
  | sweep => cases h; exact .inr ⟨rfl, rfl⟩
  | bdInit | tbInit | tbStart | tbStop | tbClear | tbRead | bufClear | bufSetBrightness _ _ _ | bufRead _ _ _
  | setScale => exact nomatch hi

/-- Everything the Controller's step can do. -/
theorem controllerStep_cases {s s' : State} (h : s.controllerStep = .next s') :
    s' = s ∨
    (s.fault = none ∧ s.ctl = .start ∧ ∃ i, decode s.cmd = .ok i ∧ exec i s = .next s') ∨
    (s.fault = none ∧ s.ctl = .start ∧ (∃ e, decode s.cmd = .error e) ∧ s' = s.illegal) ∨
    (s.fault = none ∧ ∃ w, s.ctl = .waitBus w ∧ s.bdPend = .none ∧ s' = s.resume w) := by
  unfold State.controllerStep at h
  split at h
  · cases h; exact .inl rfl
  · cases h; exact .inl rfl
  · next hf hc =>
    unfold State.fetch at h
    split at h
    · next i hd => exact .inr (.inl ⟨hf, hc, i, hd, h⟩)
    · next e hd => cases h; exact .inr (.inr (.inl ⟨hf, hc, ⟨e, hd⟩, rfl⟩))
  · next w hf hc =>
    split at h
    · next hp => cases h; exact .inr (.inr (.inr ⟨hf, w, hc, hp, rfl⟩))
    all_goals cases h; exact .inl rfl

/-- A fault raised at a Host access of an LMC that is not faulted. -/
theorem raise_noData {s : State} {k : Fault} (hf : s.fault = none) :
    s.noData.raise k = { s with hostData := none, fault := some k } := by
  simp [State.raise, State.noData, hf]

/-- Everything one Host access can do. -/
theorem hostAccess_cases (s : State) (a : HostAccess) :
    ∃ d n, s.hostAccess a = { s with hostData := d, draws := n } ∨
      (∃ k, s.fault = none ∧ s.hostAccess a = { s with hostData := d, draws := n, fault := some k }) ∨
      (s.fault = none ∧ s.busy = false ∧
        ((∃ w, s.hostAccess a = { s with hostData := d, draws := n, cmd := w, busy := true, ctl := .start }) ∨
          ∃ w, s.hostAccess a = { s with hostData := d, draws := n, arg := w })) := by
  have bad : ∃ d n, s.noData.raise .hostAccess = { s with hostData := d, draws := n } ∨
      ∃ k, s.fault = none ∧ s.noData.raise .hostAccess = { s with hostData := d, draws := n, fault := some k } := by
    cases hf : s.fault with
    | none => exact ⟨none, s.draws, .inr ⟨.hostAccess, rfl, raise_noData hf⟩⟩
    | some k => exact ⟨none, s.draws, .inl (by simp [State.raise, hf, State.noData])⟩
  have bad' := bad
  obtain ⟨d, n, hb⟩ := bad
  cases a with
  | read off width =>
    simp only [State.hostAccess, State.hostRead]
    split
    · exact ⟨_, _, .inl rfl⟩
    · split
      · exact ⟨_, s.draws + 1, .inl rfl⟩
      · exact ⟨_, _, .inl rfl⟩
    · exact ⟨_, _, .inl rfl⟩
    · exact ⟨d, n, hb.imp id .inl⟩
    · exact ⟨d, n, hb.imp id .inl⟩
  | write off width v =>
    simp only [State.hostAccess, State.hostWrite]
    split
    · simp only [State.portWrite]
      split
      · next hf =>
        split
        · exact ⟨none, s.draws, .inr (.inl ⟨.hostProtocol, hf, raise_noData hf⟩)⟩
        · next hbz => exact ⟨none, s.draws, .inr (.inr ⟨hf, Bool.eq_false_iff.mpr hbz, .inl ⟨v, rfl⟩⟩)⟩
      · exact ⟨none, s.draws, .inl rfl⟩
    · simp only [State.portWrite]
      split
      · next hf =>
        split
        · exact ⟨none, s.draws, .inr (.inl ⟨.hostProtocol, hf, raise_noData hf⟩)⟩
        · next hbz => exact ⟨none, s.draws, .inr (.inr ⟨hf, Bool.eq_false_iff.mpr hbz, .inr ⟨v, rfl⟩⟩)⟩
      · exact ⟨none, s.draws, .inl rfl⟩
    all_goals exact ⟨d, n, hb.imp id .inl⟩

/-- A Host program step is an access, with the program moved on. -/
theorem hostProgramStep_cases (s : State) :
    s.hostProgramStep = s ∨ ∃ p a, s.hostProgramStep = (s.setProg p).hostAccess a := by
  unfold State.hostProgramStep
  split
  · exact .inl rfl
  · exact .inr ⟨_, _, rfl⟩
  · split
    · exact .inr ⟨s.hostProg, readCsr, rfl⟩
    · exact .inr ⟨_, _, rfl⟩
  · split <;> exact .inr ⟨_, _, rfl⟩

/-- Taking a turn touches the schedule and the draws alone. -/
theorem nextTurn_frame (s : State) :
    s.nextTurn.2 = { s with script := s.nextTurn.2.script, draws := s.nextTurn.2.draws } := by
  unfold State.nextTurn
  split <;> rfl

/-- A placed turn is the one taken. -/
theorem step_placed {s : State} {t : Turn} {ts : List Turn} (h : s.script = t :: ts) :
    step s = ({ s with script := ts } : State).turn t := by
  simp [step, State.nextTurn, h]

end Sys2Proof.Machine
end

