-- ==== Sys2Proof/Laws/Operands.lean ====
section
/-! SUPPORT. What the operand functions can answer: cells and their indices, quantization, column vectors, the masked
status, and the taking of a placed turn. -/

namespace Sys2Proof.Machine

/-! ### Cells (R35, R65) -/

/-- Two cells at one index are one cell. -/
theorem cellIndex_inj {ch ch' : Fin 3} {r c r' c' : Fin 9} (h : cellIndex ch r c = cellIndex ch' r' c') :
    ch = ch' ∧ r = r' ∧ c = c' := by
  have h' := congrArg Fin.val h
  simp only [cellIndex] at h'
  omega

/-- In-range indices name their cell. -/
theorem cellOf_ofNat (ch : Fin 3) (r c : Fin 9) :
    cellOf (BitVec.ofNat 4 r) (BitVec.ofNat 4 c) (BitVec.ofNat 2 ch) = some (cellIndex ch r c) := by
  have h1 : r.val % 16 = r.val := by omega
  have h2 : c.val % 16 = c.val := by omega
  have h3 : ch.val % 4 = ch.val := by omega
  have h4 : r.val ≤ 8 ∧ c.val ≤ 8 ∧ ch.val ≤ 2 := by omega
  simp [cellOf, h1, h2, h3, h4]

/-- Indices that are not all in range name no cell (R214). -/
theorem cellOf_eq_none {r c : BitVec 4} {h : BitVec 2} : cellOf r c h = none ↔ 8 < r ∨ 8 < c ∨ 2 < h := by
  simp only [cellOf, BitVec.lt_def]
  split <;> simp <;> omega

/-- A written cell reads as written, and every other cell as before (R35). -/
theorem writeCell_cell (s : State) (ch ch' : Fin 3) (r c r' c' : Fin 9) (d : Duty) :
    (s.writeCell (cellIndex ch r c) d).cell ch' r' c' =
      if (ch', r', c') = (ch, r, c) then d else s.cell ch' r' c' := by
  by_cases h : (ch', r', c') = (ch, r, c)
  · obtain ⟨rfl, rfl, rfl⟩ : ch' = ch ∧ r' = r ∧ c' = c := by simpa using h
    simp [State.cell, State.writeCell]
  · have hne : (cellIndex ch r c).val ≠ (cellIndex ch' r' c').val := by
      intro he
      obtain ⟨rfl, rfl, rfl⟩ := cellIndex_inj (Fin.ext he)
      exact h rfl
    simp only [State.cell, State.writeCell, h, if_false, Fin.getElem_fin]
    exact Vector.getElem_set_ne _ _ hne

/-- The byte and register of a scan write depend on the board and the Buffer alone (R155 to R157). -/
theorem scanWrite_congr {s t : State} (hc : t.cfg = s.cfg) (hb : t.buf = s.buf) (i r : Fin 9) (ch : Fin 3)
    (half : Half) : t.scanWrite i r ch half = s.scanWrite i r ch half := by
  cases s; cases t; cases hc; cases hb; rfl

/-! ### Values (R212, R217) -/

/-- The check on ARG is the check on the exact normalized value (R11, R214). -/
theorem normalizedOk_iff (arg : Word) :
    normalizedOk arg = true ↔ 0 ≤ normalizedValue arg ∧ normalizedValue arg ≤ 1 := by
  simp only [normalizedOk, normalizedValue, decide_eq_true_eq]
  rw [div_le_one (by norm_num), le_div_iff₀ (by norm_num), zero_mul]
  exact_mod_cast Iff.rfl

/-- A quantized value is a duty value (R217). -/
theorem quantize_le (v s : Nat) : quantize v s ≤ 4095 := Nat.min_le_left _ _

/-- A quantized value fits a cell. -/
theorem quantize_toNat (v s : Nat) : (BitVec.ofNat 12 (quantize v s)).toNat = quantize v s := by
  have := quantize_le v s
  simp; omega

/-! ### Column vectors (R38) -/

theorem enLegal_oneHot (c : Fin 9) : enLegal (oneHot c) = true := by revert c; decide

theorem enLegal_zero : enLegal 0 = true := by decide

/-- One column's bit is set in its vector, and no other (R154). -/
theorem oneHot_getLsbD (c c' : Fin 9) : (oneHot c).getLsbD c'.val = decide (c' = c) := by revert c c'; decide

/-! ### Statuses (R103) -/

/-- A masked status is a fixed point of the mask. -/
theorem mask_mask (raw m : Byte) : raw &&& m &&& m = raw &&& m := by rw [BitVec.and_assoc, BitVec.and_self]

/-- A known status is read as it is, and the read changes nothing (R28). -/
theorem readStat_of_some {s : State} {v : Byte} (h : s.stat = some v) : s.readStat = (v, s) := by
  simp [State.readStat, h]

/-- A known byte is read as it is, and the read changes nothing (R29). -/
theorem readRxd_of_some {s : State} {b : Byte} (h : s.rxd = some b) : s.readRxd = (b, s) := by
  simp [State.readRxd, h]

/-! ### Turns (R71) -/

/-- A run of one more step begins with the turn placed first. -/
theorem run_placed {n : Nat} {s u : State} {t : Turn} {ts : List Turn} {o : Host.Outcome State Fault Refusal}
    (h : s.script = t :: ts) (hu : ({ s with script := ts } : State).turn t = .next u)
    (hr : Host.Core.run core n u = o) : Host.Core.run core (n + 1) s = o := by
  have hs : core.step s = .next u := (step_placed h).trans hu
  simp only [Host.Core.run, hs]; exact hr

end Sys2Proof.Machine
end

