-- ==== Sys2Proof/Laws/PerInstr.lean ====
section
/-! SUPPORT. What is said once per command about its word: the word fits the command's row of the opcode table (R88). -/

namespace Sys2Proof.Laws.EncodeMatchesRow

/-- The word of a command fits its row's mask and match (R88). -/
def Statement (i : Instr) : Prop := encode i &&& i.rowMask = i.rowMatch

theorem bdInit : Statement .bdInit := by unfold Statement; decide

theorem bdStart : Statement .bdStart := by unfold Statement; decide

theorem bdStop : Statement .bdStop := by unfold Statement; decide

theorem bdWrite (b : Byte) : Statement (.bdWrite b) := by
  apply BitVec.eq_of_getLsbD_eq
  intro k hk
  simp only [encode, Instr.opc, Instr.operandBits, Instr.rowMask, Instr.rowMatch, BitVec.getLsbD_and,
    BitVec.getLsbD_append]
  interval_cases k <;> simp

theorem bdReadAck : Statement .bdReadAck := by unfold Statement; decide

theorem bdReadNack : Statement .bdReadNack := by unfold Statement; decide

theorem bdStatus : Statement .bdStatus := by unfold Statement; decide

theorem rtWriteReg (a : ChipAddr) (g v : Byte) : Statement (.rtWriteReg a g v) := by
  apply BitVec.eq_of_getLsbD_eq
  intro k hk
  simp only [encode, Instr.opc, Instr.operandBits, Instr.rowMask, Instr.rowMatch, BitVec.getLsbD_and,
    BitVec.getLsbD_append]
  interval_cases k <;> simp

theorem chipInit (a : ChipAddr) : Statement (.chipInit a) := by
  apply BitVec.eq_of_getLsbD_eq
  intro k hk
  simp only [encode, Instr.opc, Instr.operandBits, Instr.rowMask, Instr.rowMatch, BitVec.getLsbD_and,
    BitVec.getLsbD_append]
  interval_cases k <;> simp

theorem tbInit : Statement .tbInit := by unfold Statement; decide

theorem tbStart : Statement .tbStart := by unfold Statement; decide

theorem tbStop : Statement .tbStop := by unfold Statement; decide

theorem tbClear : Statement .tbClear := by unfold Statement; decide

theorem tbRead : Statement .tbRead := by unfold Statement; decide

theorem bufClear : Statement .bufClear := by unfold Statement; decide

theorem bufSetBrightness (r c : BitVec 4) (h : BitVec 2) : Statement (.bufSetBrightness r c h) := by
  apply BitVec.eq_of_getLsbD_eq
  intro k hk
  simp only [encode, Instr.opc, Instr.operandBits, Instr.rowMask, Instr.rowMatch, BitVec.getLsbD_and,
    BitVec.getLsbD_append]
  interval_cases k <;> simp

theorem bufRead (r c : BitVec 4) (h : BitVec 2) : Statement (.bufRead r c h) := by
  apply BitVec.eq_of_getLsbD_eq
  intro k hk
  simp only [encode, Instr.opc, Instr.operandBits, Instr.rowMask, Instr.rowMatch, BitVec.getLsbD_and,
    BitVec.getLsbD_append]
  interval_cases k <;> simp

theorem setScale : Statement .setScale := by unfold Statement; decide

theorem sweep : Statement .sweep := by unfold Statement; decide

end Sys2Proof.Laws.EncodeMatchesRow
end

