-- ==== Sys2Proof/Laws/Scan.lean ====
section
/-! SUPPORT. The order of a pass, by the place of a transaction in it (R150, R155), and the Controller's step at a completed
phase of a register write (R102, R130). -/

namespace Sys2Proof.Safety

open Sys2Proof.Machine

/-- A place in a pass is one of 486. -/
theorem scanPos_lt (se : Scan) : scanPos se < 486 := by
  obtain ⟨base, period, i, r, ch, half, fails⟩ := se
  cases half <;> simp only [scanPos] <;> omega

/-- A place says which position, row, channel and half it is. -/
theorem scanPos_inj {se se' : Scan} (h : scanPos se = scanPos se') :
    se.i = se'.i ∧ se.r = se'.r ∧ se.ch = se'.ch ∧ se.half = se'.half := by
  obtain ⟨base, period, i, r, ch, half, fails⟩ := se
  obtain ⟨base', period', i', r', ch', half', fails'⟩ := se'
  cases half <;> cases half' <;> simp only [scanPos] at h ⊢ <;> simp <;> omega

/-- The next place of a pass is one further and keeps everything but the place; after the last there is none. -/
theorem next_cases (se : Scan) :
    (∃ y, se.next = .sameColumn y ∧ scanPos y = scanPos se + 1 ∧ y.i = se.i ∧
      y.base = se.base ∧ y.period = se.period ∧ y.fails = se.fails) ∨
    (∃ y, se.next = .nextColumn y ∧ scanPos y = scanPos se + 1 ∧ y.i ≠ se.i ∧
      y.base = se.base ∧ y.period = se.period ∧ y.fails = se.fails) ∨
    (se.next = .passEnd ∧ scanPos se = 485) := by
  obtain ⟨base, period, i, r, ch, half, fails⟩ := se
  cases half with
  | low => exact .inl ⟨_, rfl, rfl, rfl, rfl, rfl, rfl⟩
  | high =>
    unfold Scan.next
    dsimp only
    split
    · exact .inl ⟨_, rfl, by simp only [scanPos]; omega, rfl, rfl, rfl, rfl⟩
    split
    · exact .inl ⟨_, rfl, by simp only [scanPos, Fin.val_zero]; omega, rfl, rfl, rfl, rfl⟩
    split
    · refine .inr (.inl ⟨_, rfl, by simp only [scanPos, Fin.val_zero]; omega, ?_, rfl, rfl, rfl⟩)
      simp [Fin.ext_iff]
    · exact .inr (.inr ⟨rfl, by simp only [scanPos]; omega⟩)

/-- Two scans at one place with one baseline, period and count are one. -/
theorem scan_ext {x y : Scan} (hp : scanPos x = scanPos y) (hb : x.base = y.base) (hq : x.period = y.period)
    (hf : x.fails = y.fails) : x = y := by
  obtain ⟨h1, h2, h3, h4⟩ := scanPos_inj hp
  cases x; cases y; simp_all

/-- What `countFail` counts (R158). -/
theorem countFail_toNat (fails : Word) : (countFail fails).toNat = failsAfter true fails := by
  simp [countFail, failsAfter]

/-! ### Steps at a completed phase -/

/-- A half cell's transaction depends on the board and the Buffer alone. -/
theorem scanTxnAt_congr {s t : State} (hc : t.cfg = s.cfg) (hb : t.buf = s.buf) (se : Scan) :
    scanTxnAt t se = scanTxnAt s se := by
  simp only [scanTxnAt, scanWrite_congr hc hb]

/-- On an enabled bus a scan's transaction begins with a START (R130). -/
theorem scanTxn_enabled {s : State} (h : s.bdEn = true) (se : Scan) :
    s.scanTxn se = s.issue .start .start (.txn (scanTxnAt s se) (.sweep se)) := by
  simp only [State.scanTxn, State.writeRegister, State.busStart, State.busPhase, h, if_true]
  rfl

/-- What SWEEP does after a transaction, by its place in the pass: the next transaction, in the column or in the next one,
or after the last the loop test, with the failure counted or not (R154, R155, R158). -/
theorem endScanWrite_place {u : State} {se se' : Scan} {e : TxnEnd} (hen : u.bdEn = true) (hb : se'.base = se.base)
    (hq : se'.period = se.period) (hf : se'.fails.toNat = failsAfter (!e.ok) se.fails) :
    (scanPos se' = scanPos se + 1 → u.endScanWrite se e =
      (if se'.i = se.i then u else u.setEn (oneHot u.cfg.colOrder[se'.i])).issue .start .start
        (.txn (scanTxnAt u se') (.sweep se'))) ∧
    (scanPos se = 485 → u.endScanWrite se e = u.scanTest { se with fails := se'.fails }) := by
  obtain ⟨x, hx, hx2, h⟩ := endScanWrite_cases u se e
  have hxf : x.fails = se'.fails := by
    apply BitVec.eq_of_toNat_eq
    rw [hf, hx2]
    cases e.ok <;> simp [failsAfter, countFail_toNat]
  rw [hxf] at hx
  subst hx
  have hn := next_cases { se with fails := se'.fails }
  have hlt := scanPos_lt se'
  have hpx : scanPos { se with fails := se'.fails } = scanPos se := rfl
  constructor
  · intro hp
    obtain ⟨z, hz, p1, p2, p3, p4, p5⟩ | ⟨z, hz, p1, p2, p3, p4, p5⟩ | ⟨hz, p1⟩ := hn
    · obtain rfl : se' = z := scan_ext (by omega) (hb.trans p3.symm) (hq.trans p4.symm) p5.symm
      obtain ⟨y, hy, h⟩ | ⟨y, hy, h⟩ | ⟨hy, h⟩ := h <;> rw [hy] at hz <;> cases hz
      rw [h, if_pos p2, scanTxn_enabled hen]
    · obtain rfl : se' = z := scan_ext (by omega) (hb.trans p3.symm) (hq.trans p4.symm) p5.symm
      obtain ⟨y, hy, h⟩ | ⟨y, hy, h⟩ | ⟨hy, h⟩ := h <;> rw [hy] at hz <;> cases hz
      rw [h, if_neg p2, State.scanColumn, scanTxn_enabled (by simpa using hen)]
      rfl
    · omega
  · intro hp
    obtain ⟨z, hz, p1, -⟩ | ⟨z, hz, p1, -⟩ | ⟨hz, -⟩ := hn
    · have := scanPos_lt z
      omega
    · have := scanPos_lt z
      omega
    · obtain ⟨y, hy, h⟩ | ⟨y, hy, h⟩ | ⟨hy, h⟩ := h <;> rw [hy] at hz <;> cases hz
      exact h

/-- At a completed phase the step is the check of that phase (R102). -/
theorem step_phaseDone {s : State} {t : Txn} {who : Caller} {st : Byte} {ts : List Turn} (h : PhaseDone s t who st ts) :
    step s = .next (({ s with script := ts } : State).checkPhase t who fun e u => u.endTxn who e) := by
  obtain ⟨hf, hs, hc, hp, -, -⟩ := h
  rw [step_placed hs]
  simp [State.turn, State.controllerStep, hf, hc, hp, State.resume]

/-- Where a transaction is over the step returns to its caller, after the STOP if it succeeded (R130, R133). -/
theorem step_txnOver {s : State} {t : Txn} {who : Caller} {st : Byte} {ts : List Turn} (h : PhaseDone s t who st ts)
    (ho : TxnOver t st) :
    step s = .next (if st = t.ph.expected then
      ({ s with script := ts } : State).issueStop.endTxn who { ok := true, ph := 0, st := 0 }
    else ({ s with script := ts } : State).endTxn who { ok := false, ph := t.ph.number, st := st }) := by
  rw [step_phaseDone h]
  obtain ⟨-, -, -, -, hen, hst⟩ := h
  by_cases he : st = t.ph.expected
  · have hph : t.ph = .data := ho.resolve_left (· he)
    simp [State.checkPhase, State.readStat, hst, hph, he, State.busStop, hen]
  · simp [State.checkPhase, State.readStat, hst, he]

end Sys2Proof.Safety
end

