-- ==== Sys2Proof/Tests/Slice0.lean ====
section
/-! SUPPORT. Tests of the model: words written out from 30_encoding.md, the vectors of 95_test_vectors.md, and for each
statement with hypotheses a state that meets them all. -/

namespace Sys2Proof.Tests

open Sys2Proof.Machine Sys2Proof.Safety

/-! ### The example board of 95_test_vectors.md section 4 -/

/-- `ROWMAP` of the example instantiation, row by row. -/
def exRowmap : Vector (Vector Wire 3) 9 := #v[
  #v[⟨0, 0x08, 0x09⟩, ⟨0, 0x0C, 0x0D⟩, ⟨0, 0x10, 0x11⟩],
  #v[⟨0, 0x14, 0x15⟩, ⟨0, 0x18, 0x19⟩, ⟨0, 0x1C, 0x1D⟩],
  #v[⟨0, 0x20, 0x21⟩, ⟨0, 0x24, 0x25⟩, ⟨0, 0x28, 0x29⟩],
  #v[⟨0, 0x2C, 0x2D⟩, ⟨0, 0x30, 0x31⟩, ⟨0, 0x34, 0x35⟩],
  #v[⟨0, 0x38, 0x39⟩, ⟨0, 0x3C, 0x3D⟩, ⟨0, 0x40, 0x41⟩],
  #v[⟨0, 0x44, 0x45⟩, ⟨1, 0x08, 0x09⟩, ⟨1, 0x0C, 0x0D⟩],
  #v[⟨1, 0x10, 0x11⟩, ⟨1, 0x14, 0x15⟩, ⟨1, 0x18, 0x19⟩],
  #v[⟨1, 0x1C, 0x1D⟩, ⟨1, 0x20, 0x21⟩, ⟨1, 0x24, 0x25⟩],
  #v[⟨1, 0x28, 0x29⟩, ⟨1, 0x2C, 0x2D⟩, ⟨1, 0x30, 0x31⟩]]

/-- The example instantiation. -/
def exBoard : Board where
  tbWidth := 32
  statusMask := 0xF8
  chipAddr := #v[0x40, 0x41]
  rowmap := exRowmap
  colOrder := #v[0, 1, 2, 3, 4, 5, 6, 7, 8]
  enActiveLow := false
  initSeq := [(0x00, 0x01)]
  lmcBase := 0x1000

/-- The reset state on the example board, with the Buffer cleared so that every field is a numeral. -/
def atReset : State := { State.reset with cfg := exBoard, buf := Vector.replicate 243 0 }

/-- The boot state of 95_test_vectors.md: BD_INIT, TB_INIT and BUF_CLEAR answered. -/
def boot : State := { atReset with bdEn := true, tbCfg := true }

/-- `s` with the turns `ts` placed. -/
def placed (s : State) (ts : List Turn) : State := { s with script := ts }

/-- `s` with the command word `w` started, the Controller's turn next and then `ts`. -/
def started (s : State) (w : Word) (ts : List Turn) : State :=
  { s with cmd := w, busy := true, ctl := .start, script := .controller :: ts }

/-- `s` waiting at `w`, the phase complete with status `st`, the Controller's turn next. -/
def waiting (s : State) (w : Wait) (st : Byte) : State :=
  { s with busy := true, ctl := .waitBus w, stat := some st, bdPend := .none, script := [.controller] }

/-- What `f` finds in the state an outcome gives. -/
def after {α : Type} (o : Host.Outcome State Fault Refusal) (f : State → α) : Option α :=
  match o with
  | .next s => some (f s)
  | .fault _ | .refused _ => none

/-! ### Decoding (R81 to R89): one word of each command, written out from its format -/

theorem test_decode_bdInit : decodeTableWord 32 0x01000000 = some .bdInit := by decide
theorem test_decode_bdStart : decodeTableWord 32 0x02000000 = some .bdStart := by decide
theorem test_decode_bdStop : decodeTableWord 32 0x03000000 = some .bdStop := by decide
theorem test_decode_bdWrite : decodeTableWord 32 0x040000A5 = some (.bdWrite 0xA5) := by decide
theorem test_decode_bdReadAck : decodeTableWord 32 0x05000000 = some .bdReadAck := by decide
theorem test_decode_bdReadNack : decodeTableWord 32 0x06000000 = some .bdReadNack := by decide
theorem test_decode_bdStatus : decodeTableWord 32 0x07000000 = some .bdStatus := by decide
theorem test_decode_rtWriteReg : decodeTableWord 32 0x107F1234 = some (.rtWriteReg 0x7F 0x12 0x34) := by decide
theorem test_decode_chipInit : decodeTableWord 32 0x11410000 = some (.chipInit 0x41) := by decide
theorem test_decode_tbInit : decodeTableWord 32 0x20000000 = some .tbInit := by decide
theorem test_decode_tbStart : decodeTableWord 32 0x21000000 = some .tbStart := by decide
theorem test_decode_tbStop : decodeTableWord 32 0x22000000 = some .tbStop := by decide
theorem test_decode_tbClear : decodeTableWord 32 0x23000000 = some .tbClear := by decide
theorem test_decode_tbRead : decodeTableWord 32 0x24000000 = some .tbRead := by decide
theorem test_decode_bufClear : decodeTableWord 32 0x30000000 = some .bufClear := by decide
theorem test_decode_bufSetBrightness : decodeTableWord 32 0x31000FF3 = some (.bufSetBrightness 15 15 3) := by decide
theorem test_decode_bufRead : decodeTableWord 32 0x32000251 = some (.bufRead 2 5 1) := by decide
theorem test_decode_setScale : decodeTableWord 32 0x33000000 = some .setScale := by decide
theorem test_decode_sweep : decodeTableWord 32 0x40000000 = some .sweep := by decide

/-- EN1 to EN3: unassigned opcodes, refused by name. -/
theorem test_decode_unassigned :
    (decode 0x00000000).toOption = none ∧ (decode 0xFF000000).toOption = none ∧
      (decode 0x25000000).toOption = none ∧ decodeTableWord 8 0xFF = none := by decide

/-- EN4, EN6, EN8, EN10, EN12, EN14, EN16: a reserved bit set in each format. -/
theorem test_decode_reserved :
    decodeTableWord 32 0x01000001 = none ∧ decodeTableWord 32 0x04000100 = none ∧
      decodeTableWord 32 0x10FF0000 = none ∧ decodeTableWord 32 0x11400001 = none ∧
      decodeTableWord 32 0x31000884 = none ∧ decodeTableWord 32 0x31001000 = none ∧
      decodeTableWord 32 0x40000001 = none := by decide

/-- R134's example word, and R215's, from the encoder. -/
theorem test_encode : encode (.rtWriteReg 0x40 0x08 0xFF) = 0x104008FF ∧ encode (.bufRead 2 5 1) = 0x32000251 := by
  decide

/-! ### WellFormed: each check refuses an ill-formed term -/

theorem test_wf_accepts : exBoard.wf = true ∧ cellInRange 8 8 2 = true := by decide
theorem test_wf_refuses_width_0 : { exBoard with tbWidth := 0 }.wf = false := by decide
theorem test_wf_refuses_width_33 : { exBoard with tbWidth := 33 }.wf = false := by decide
theorem test_wf_refuses_mask : { exBoard with statusMask := 0xD8 }.wf = false := by decide
theorem test_wf_refuses_repeated_column :
    { exBoard with colOrder := #v[0, 1, 2, 3, 4, 5, 6, 7, 7] }.wf = false := by decide
theorem test_wf_refuses_row : cellInRange 9 0 0 = false := by decide
theorem test_wf_refuses_column : cellInRange 0 9 0 = false := by decide
theorem test_wf_refuses_channel : cellInRange 0 0 3 = false := by decide

/-! ### Bus Driver (vectors BD1 to BD14) -/

theorem test_bdInit : after (exec .bdInit atReset) (fun t => (t.bdEn, t.busTrace, t.csr)) = some (true, [], 0) := by
  decide

/-- BD1. -/
theorem test_bdStart_not_enabled :
    after (step (started atReset 0x02000000 [])) (fun t => (t.fault, t.busTrace, t.busy)) =
      some (some .busNotEnabled, [], true) := by decide

/-- BD4, up to the wait. -/
theorem test_bdStart :
    after (step (started boot 0x02000000 [])) (fun t => (t.busTrace, t.bdPend)) = some ([.start], .start) := by decide

/-- BD8. -/
theorem test_bdStop :
    after (exec .bdStop { boot with stat := some 0x28 }) (fun t => (t.busTrace, t.stat, t.bdPend, t.csr)) =
      some ([.stop], none, .none, 0) := by decide

theorem test_bdWrite :
    after (exec (.bdWrite 0xA5) boot) (fun t => (t.busTrace, t.bdPend)) = some ([.byte 0xA5], .write 0xA5) := by decide

/-- BD6: the BusPeer's raw 0x2F is masked. -/
theorem test_bdWrite_status :
    after (step { waiting boot .respondZero 0 with bdPend := .write 0xA5, script := [.busPeer 0x2F 0x77] })
      (fun t => (t.stat, t.rxd, t.bdPend)) = some (some 0x28, none, .none) := by decide

theorem test_bdReadAck :
    after (exec .bdReadAck boot) (fun t => (t.busTrace, t.bdPend)) = some ([.read true], .read true) := by decide

/-- BD11: the received byte reaches RESULT. -/
theorem test_bdReadAck_result :
    after (step { waiting boot .respondByte 0x50 with rxd := some 0x3C }) (fun t => (t.result, t.csr, t.stat)) =
      some (0x3C, 0, some 0x50) := by decide

/-- BD12: the byte and the masked status. -/
theorem test_bdReadNack :
    after (step { waiting boot .respondByte 0 with bdPend := .read false, script := [.busPeer 0x5F 0xFF] })
      (fun t => (t.stat, t.rxd)) = some (some 0x58, some 0xFF) := by decide

theorem test_bdReadNack_issue :
    after (exec .bdReadNack boot) (fun t => (t.busTrace, t.bdPend)) = some ([.read false], .read false) := by decide

/-- BD14. -/
theorem test_bdStatus :
    after (exec .bdStatus { atReset with stat := some 0x08 }) (fun t => (t.result, t.stat, t.draws)) =
      some (0x08, some 0x08, 1) := by decide

/-- BD2, BD9: the value is a draw; that the command ends OK, with `STAT` still UNKNOWN, is not. -/
theorem test_bdStatus_unknown :
    after (exec .bdStatus atReset) (fun t => (t.csr, t.stat, t.draws)) = some (0, none, 2) := by decide

/-! ### Register writes (vectors RT1 to RT12) -/

/-- `RT_WRITE_REG 0x40, 0x08, 0xFF` waiting for phase `ph`. -/
def rt (ph : Phase) : Wait := .txn { addr := 0x40, reg := 0x08, val := 0xFF, ph := ph } .writeReg

theorem test_rtWriteReg :
    after (step (started boot 0x104008FF [])) (fun t => (t.busTrace, t.ctl)) =
      some ([.start], .waitBus (rt .start)) := by decide

/-- RT2: a start mismatch answers at once, with no further event. -/
theorem test_rtWriteReg_start_mismatch :
    after (step (waiting boot (rt .start) 0x10)) (fun t => (t.csr, t.result, t.busTrace, t.stat)) =
      some (2, 0x110, [], some 0x10) := by decide

/-- RT3, RT4, RT6: the phase number and the status of a later mismatch. -/
theorem test_write_mismatches :
    after (step (waiting boot (rt .address) 0x20)) (fun t => t.result) = some 0x220 ∧
      after (step (waiting boot (rt .register) 0x30)) (fun t => t.result) = some 0x330 ∧
      after (step (waiting boot (rt .data) 0x18)) (fun t => t.result) = some 0x418 := by decide

/-- RT1: the bytes of the phases, and the STOP with the answer. -/
theorem test_write_phases :
    after (step (waiting boot (rt .start) 0x08)) (fun t => t.busTrace) = some [.byte 0x80] ∧
      after (step (waiting boot (rt .address) 0x18)) (fun t => t.busTrace) = some [.byte 0x08] ∧
      after (step (waiting boot (rt .register) 0x28)) (fun t => t.busTrace) = some [.byte 0xFF] ∧
      after (step (waiting boot (rt .data) 0x28)) (fun t => (t.busTrace, t.stat, t.csr, t.result)) =
        some ([.stop], none, 0, 0) := by decide

/-- RT10, RT11: SLAW at both ends. -/
theorem test_slaw : slaw 0x7F = 0xFE ∧ slaw 0x00 = 0x00 ∧ slaw 0x41 = 0x82 := by decide

/-! ### Chip initialization (vectors CI1 to CI6) -/

/-- CI2: the first attempt fails at START, and the next START follows at once. -/
theorem test_chipInit_retry :
    after (step (waiting boot (.txn { addr := 0x41, reg := 0x00, val := 0x01, ph := .start } (.chipInit 0x41 0)) 0x10))
      (fun t => (t.busTrace, t.busy, t.resp)) = some ([.start], true, .ok) := by decide

/-- CI4: an empty sequence answers at once, also while `BD_EN = 0`. -/
theorem test_chipInit_empty :
    after (exec (.chipInit 0x41) { atReset with cfg := { exBoard with initSeq := [] }, busy := true })
      (fun t => (t.busTrace, t.csr, t.fault)) = some ([], 0, none) := by decide

/-! ### Scan Engine (vectors SE1 to SE17) -/

/-- SE2: the heartbeat and the first column change before the fault. -/
theorem test_sweep_bus_not_enabled :
    after (step (started { atReset with tbCfg := true } 0x40000000 []))
      (fun t => (t.fault, t.outTrace, t.busTrace, t.tbRun)) =
      some (some .busNotEnabled, [.hb true, .en 0x001], [], true) := by decide

/-- SE16: the traversal order is the board's. -/
theorem test_sweep_column_order :
    after (exec .sweep { boot with cfg := { exBoard with colOrder := #v[8, 7, 6, 5, 4, 3, 2, 1, 0] } })
      (fun t => (t.en, t.outTrace)) = some (0x100, [.hb true, .en 0x100]) := by decide

/-- SE17: a period wider than the Time Base. -/
theorem test_sweep_wide_period :
    after (exec .sweep { boot with cfg := { exBoard with tbWidth := 16 }, arg := 0x00010000 })
      (fun t => (t.csr, t.tbRun, t.outTrace)) = some (4, false, []) := by decide

/-- The sweep of base `base` and period `p` at the last phase of its pass. -/
def lastPhase (base p : Nat) : Wait :=
  .txn { addr := 0x41, reg := 0x31, val := 0x00, ph := .data }
    (.sweep { base := base, period := p, i := 8, r := 8, ch := 2, half := .high, fails := 1 })

/-- `s` in that sweep, the last status having arrived. -/
def atTest (s : State) (base p cnt : Nat) : State :=
  { waiting s (lastPhase base p) 0x28 with tbRun := true, cnt := cnt, en := 0x100, hb := true }

/-- SE9: the elapsed ticks are counted across a wrap. -/
theorem test_sweep_wrap :
    after (step (atTest boot 0xFFFFFFFE 3 0)) (fun t => (t.busy, t.hb)) = some (true, false) ∧
      after (step (atTest boot 0xFFFFFFFE 3 1)) (fun t => (t.busy, t.en, t.cnt, t.tbRun, t.result)) =
        some (false, 0, 0, false, 1) := by decide

/-- SE13, SE14: where the two halves of a duty go. -/
theorem test_scan_write :
    let s := (boot.writeCell (cellIndex 0 0 0) 0x123).writeCell (cellIndex 2 8 4) 0xFFF
    s.scanWrite 0 0 0 .low = (0x40, 0x08, 0x23) ∧ s.scanWrite 0 0 0 .high = (0x40, 0x09, 0x01) ∧
      s.scanWrite 4 8 2 .low = (0x41, 0x30, 0xFF) ∧ s.scanWrite 4 8 2 .high = (0x41, 0x31, 0x0F) := by decide

/-! ### Time Base (vectors TB1 to TB10) -/

/-- TB7. -/
theorem test_tbInit :
    after (exec .tbInit { boot with tbRun := true, cnt := 9 }) (fun t => (t.tbCfg, t.tbRun, t.cnt)) =
      some (true, true, 9) := by decide

/-- TB1. -/
theorem test_tbStart_not_configured :
    after (step (started atReset 0x21000000 [])) (fun t => (t.fault, t.tbRun)) =
      some (some .tbNotConfigured, false) := by decide

/-- TB4: counting resumes from the retained value. -/
theorem test_tbStart : after (exec .tbStart { boot with cnt := 3 }) (fun t => (t.tbRun, t.cnt)) = some (true, 3) := by
  decide

/-- TB3. -/
theorem test_tbStop :
    after (exec .tbStop { boot with tbRun := true, cnt := 3 }) (fun t => (t.tbRun, t.cnt)) = some (false, 3) := by decide

/-- TB5. -/
theorem test_tbClear : after (exec .tbClear { boot with cnt := 0x1234 }) (fun t => (t.cnt, t.csr)) = some (0, 0) := by
  decide

/-- TB2. -/
theorem test_tbRead : after (exec .tbRead { boot with cnt := 3 }) (fun t => (t.result, t.cnt)) = some (3, 3) := by decide

/-- TB6, TB10: the wrap at the counter's width. -/
theorem test_tick_wraps :
    after (step { boot with tbRun := true, cnt := 0xFFFFFFFF, script := [.tick] }) (fun t => (t.cnt, t.fault)) =
      some (0, none) ∧
    after (step { boot with cfg := { exBoard with tbWidth := 16 }, tbRun := true, cnt := 0xFFFF, script := [.tick] })
      (fun t => t.cnt) = some 0 := by decide

/-- TB3: no tick counts while stopped. -/
theorem test_tick_stopped : after (step { boot with cnt := 3, script := [.tick] }) (fun t => t.cnt) = some 3 := by decide

/-! ### Brightness Buffer (vectors BB1 to BB28) -/

/-- R86's examples of ARG as a normalized value, an exact rational. -/
theorem test_normalizedValue :
    normalizedValue 0x00010000 = 1 ∧ normalizedValue 0x00008000 = 1 / 2 ∧ normalizedValue 0xFFFF8000 = -1 / 2 := by
  have h : (0x00010000 : Word).toInt = 65536 ∧ (0x00008000 : Word).toInt = 32768 ∧
      (0xFFFF8000 : Word).toInt = -32768 := by decide
  simp only [normalizedValue, normalized, h]
  norm_num

/-- BB1 to BB5, BB7, BB8: the quantization, ties up. -/
theorem test_quantize :
    quantize 0x10000 0x10000 = 4095 ∧ quantize 0x8000 0x10000 = 2048 ∧ quantize 0x4000 0x10000 = 1024 ∧
      quantize 0xC000 0x10000 = 3071 ∧ quantize 0x199A 0x10000 = 410 ∧ quantize 0x8 0x10000 = 0 ∧
      quantize 0x9 0x10000 = 1 := by decide

/-- BB12 to BB16: clamping and the ends of the scale. -/
theorem test_quantize_scale :
    quantize 0xC000 0x20000 = 4095 ∧ quantize 0x10000 0 = 0 ∧ quantize 0x10000 0xFFFF = 4095 ∧
      quantize 1 0xFFFFFFFF = 4095 ∧ quantize 0x10000 0xFFFFFFFF = 4095 := by decide

/-- BB24. -/
theorem test_bufSetBrightness :
    after (exec (.bufSetBrightness 2 5 1) { boot with arg := 0x4000 }) (fun t => (t.result, t.cell 1 2 5, t.cell 1 5 2)) =
      some (1024, 1024, 0) := by decide

/-- CSR and RESULT after a command word run with `arg` in ARG. -/
def answerOf (w arg : Word) : Option (Word × Word) :=
  after (step (started { boot with arg := arg } w [])) fun t => (t.csr, t.result)

/-- BB17, BB18, BB20 to BB22. -/
theorem test_bufSetBrightness_input_error :
    answerOf 0x31000000 0x00010001 = some (4, 0) ∧ answerOf 0x31000000 0xFFFF8000 = some (4, 0) ∧
      answerOf 0x31000900 0x00010000 = some (4, 0) ∧ answerOf 0x31000090 0x00010000 = some (4, 0) ∧
      answerOf 0x31000003 0x00010000 = some (4, 0) := by decide

/-- W6. -/
theorem test_bufClear :
    after (exec .bufClear (boot.writeCell (cellIndex 2 8 8) 0x800)) (fun t => (t.cell 2 8 8, t.cell 0 0 0)) =
      some (0, 0) := by decide

/-- BB26, and BB23. -/
theorem test_bufRead :
    after (exec (.bufRead 8 8 2) (boot.writeCell (cellIndex 2 8 8) 0x800)) (fun t => (t.result, t.csr)) =
      some (0x800, 0) ∧
    after (exec (.bufRead 15 0 0) boot) (fun t => (t.result, t.csr)) = some (0, 4) := by decide

/-- BB28, BB27. -/
theorem test_setScale :
    after (exec .setScale { boot.writeCell (cellIndex 0 0 0) 0xFFF with arg := 0xFFFFFFFF })
      (fun t => (t.scale, t.csr, t.cell 0 0 0)) = some (0xFFFFFFFF, 0, 0xFFF) := by decide

/-! ### Host port, priority and reset (vectors HP1 to HP13, PR1 to PR4) -/

/-- HP1, HP2. -/
theorem test_host_reads :
    after (step (placed atReset [.host readCsr])) (fun t => t.hostData) = some (some 0) ∧
      after (step (placed atReset [.host readResult])) (fun t => t.hostData) = some (some 0) := by decide

/-- The fault a Host access of the idle boot state raises. -/
def accessFault (a : HostAccess) : Option (Option Fault) := after (step (placed boot [.host a])) (·.fault)

/-- HP3, HP4, HP5, HP7: reads. -/
theorem test_host_read_faults :
    accessFault (.read 0x10 32) = some (some .hostAccess) ∧ accessFault (.read 0x8 8) = some (some .hostAccess) ∧
      accessFault (.read 0x6 32) = some (some .hostAccess) ∧ accessFault (.read 0x0 32) = some (some .hostAccess) ∧
      accessFault (readAt exBoard 0xFFC) = some (some .hostAccess) ∧
      accessFault (readAt exBoard 0x100C) = some none := by decide

/-- HP6: writes. -/
theorem test_host_write_faults :
    accessFault (.write 0xC 32 0) = some (some .hostAccess) ∧ accessFault (.write 0x8 32 0) = some (some .hostAccess) ∧
      accessFault (writeArg 0) = some none := by decide

/-- HP8. -/
theorem test_host_write_while_busy :
    after (step { waiting boot (lastPhase 0 0) 0x28 with script := [.host (writeArg 5)] })
      (fun t => (t.fault, t.busy, t.arg)) = some (some .hostProtocol, true, 0) := by decide

/-- HP9. -/
theorem test_host_csr_while_busy :
    after (step { waiting boot (lastPhase 0 0) 0x28 with script := [.host readCsr] }) (fun t => t.hostData) =
      some (some 1) := by decide

/-- R91, R92: `SETB 0, 0, 0, 1.0` as Host operations. -/
theorem test_assemble :
    assemble [.setB 0 0 0 (argOfScaled 65536)] =
      [.access (.write 0x4 32 0x00010000), .access (.write 0x0 32 0x31000000), .wait] := by decide

/-- PR1, EN16: a reserved bit is answered before the fault of R238. -/
theorem test_illegal_before_fault :
    after (step (started atReset 0x40000001 [])) (fun t => (t.csr, t.result, t.fault, t.outTrace)) =
      some (6, 0, none, []) := by decide

/-- PR3: TB_NOT_CONFIGURED comes before BUS_NOT_ENABLED. -/
theorem test_sweep_not_configured :
    after (step (started atReset 0x40000000 [])) (fun t => (t.fault, t.outTrace, t.tbRun)) =
      some (some .tbNotConfigured, [], false) := by decide

/-- R260: power-on in the middle of a sweep. -/
theorem test_power_on :
    after (step { atTest boot 0 0 7 with fault := some .hostProtocol, script := [.powerOn] })
      (fun t => (t.fault, t.ctl, t.en, t.cnt, t.bdEn)) = some (none, .idle, 0, 0, false) := by decide

/-- The first step after reset runs the command word placed for it. -/
theorem test_withFetchWord :
    after (step (State.reset.withFetchWord 32 0x20000000)) (fun t => (t.tbCfg, t.busy)) = some (true, false) := by decide

/-! ### Witnesses: for each statement with hypotheses, a state and operands that meet them all -/

theorem test_witness_encodeOfDecode : decode 0x31000FF3 = .ok (.bufSetBrightness 15 15 3) := by rfl

theorem test_witness_decodeIsTheOpcodeTable :
    decode 0x107F1234 = .ok (.rtWriteReg 0x7F 0x12 0x34) ∧
      0x107F1234 &&& (Instr.rtWriteReg 0 0 0).rowMask = (Instr.rtWriteReg 0 0 0).rowMatch ∧
      0x107F1234 &&& (Instr.rtWriteReg 1 2 3).rowMask = (Instr.rtWriteReg 1 2 3).rowMatch :=
  ⟨rfl, by decide, by decide⟩

/-- The opcode byte of an encoded command is its opcode. -/
theorem opcOf_encode (i : Instr) : opcOf (encode i) = i.opc := by
  unfold opcOf encode
  rw [BitVec.extractLsb'_append_eq_left]

/-- No command's word is 0. -/
theorem encode_ne_zero (i : Instr) : encode i ≠ 0 := by
  intro h
  have ho := opcOf_encode i
  rw [h] at ho
  cases i <;> simp only [Instr.opc] at ho <;> exact absurd ho (by decide)

theorem test_witness_illegalWordAnswered :
    ∃ s : State, s.fault = none ∧ s.ctl = .start ∧ s.script = [.controller] ∧ ∀ i : Instr, encode i ≠ s.cmd :=
  ⟨started atReset 0 [], rfl, rfl, rfl, encode_ne_zero⟩

theorem test_witness_stepRunsDecodedCommand :
    ∃ s : State, s.fault = none ∧ s.ctl = .start ∧ s.script = [.controller, .tick] ∧ decode s.cmd = .ok .tbInit ∧
      decodeTableWord 32 0x40000000 = some .sweep :=
  ⟨started atReset 0x20000000 [.tick], rfl, rfl, rfl, rfl, rfl⟩

theorem test_witness_hostWritesTakeEffect :
    ∃ s t : State, s.fault = none ∧ s.busy = false ∧ s.script = [.host (.write 0x0 32 0x40000000)] ∧
      t.fault = none ∧ t.busy = false ∧ t.script = [.host (.write 0x4 32 2)] :=
  ⟨placed boot [.host (writeCmd 0x40000000)], placed boot [.host (writeArg 2)], rfl, rfl, rfl, rfl, rfl, rfl⟩

/-- Idle, busy and faulted (log 13). -/
theorem test_witness_hostReadsAnswer :
    ∃ s t u : State, (s.script = [.host (.read 0x8 32)] ∧ s.busy = false) ∧
      (t.script = [.host (.read 0x8 32)] ∧ t.busy = true) ∧
      (u.script = [.host (.read 0x8 32)] ∧ u.busy = false ∧ u.fault = some .hostAccess) ∧
      (placed s [.host readCsr]).script = [.host (.read 0xC 32)] ∧
      (placed s [.host (.read 0x4 32)]).script = [.host (.read 0x4 32)] :=
  ⟨placed boot [.host readResult], { boot with busy := true, script := [.host readResult] },
    { boot with fault := some .hostAccess, script := [.host readResult] },
    ⟨rfl, rfl⟩, ⟨rfl, rfl⟩, ⟨rfl, rfl, rfl⟩, rfl, rfl⟩

theorem test_witness_writeWhileBusyFaults :
    ∃ s t : State, s.fault = none ∧ s.busy = true ∧ s.script = [.host (.write 0x0 32 0)] ∧
      t.fault = none ∧ t.busy = true ∧ t.script = [.host (.write 0x4 32 0)] :=
  ⟨{ boot with busy := true, script := [.host (writeCmd 0)] },
    { boot with busy := true, script := [.host (writeArg 0)] }, rfl, rfl, rfl, rfl, rfl, rfl⟩

/-- Each way an access can be bad, at the boundary of its range: the width, both ends of the window, alignment, a read of
CMD at 0x0, writes of RESULT at 0x8 and CSR at 0xC, and log 12's case, a CMD write of width 31 while `BUSY = 1`. -/
theorem test_witness_badAccessFaults :
    (∀ a : HostAccess, (placed boot [.host a]).fault = none ∧ (placed boot [.host a]).script = [.host a]) ∧
      (31 ≠ 32 ∧ (-1 : Int) < 0 ∧ (0xF : Int) < 0x10 ∧ (0x1 : Int) % 4 ≠ 0 ∧ (0xF : Int) % 4 ≠ 0) ∧
      accessFault (.read 0x0 32) = some (some .hostAccess) ∧ accessFault (.write 0x8 32 0) = some (some .hostAccess) ∧
      accessFault (.write 0xC 32 0) = some (some .hostAccess) ∧ accessFault (.read (-1) 32) = some (some .hostAccess) ∧
      after (step { boot with busy := true, script := [.host (.write 0x0 31 0)] }) (·.fault) =
        some (some .hostAccess) :=
  ⟨fun _ => ⟨rfl, rfl⟩, by decide, by decide, by decide, by decide, by decide, by decide⟩

/-- `WAIT` held and left, and `WREG_RETRY` going round and left. -/
theorem test_witness_hostPollsUntilDone :
    ∃ s t u v : State, (s.script = [.hostProgram] ∧ s.hostProg = [.wait] ∧ s.busy = true) ∧
      (t.script = [.hostProgram] ∧ t.hostProg = [.wait] ∧ t.busy = false) ∧
      (u.script = [.hostProgram] ∧ u.hostProg = [.retryUnlessOk 0x40 0x08 0xFF] ∧ u.resp = .busFailure) ∧
      v.script = [.hostProgram] ∧ v.hostProg = [.retryUnlessOk 0x40 0x08 0xFF] ∧ v.resp = .ok :=
  ⟨{ boot with script := [.hostProgram], hostProg := [.wait], busy := true },
    { boot with script := [.hostProgram], hostProg := [.wait] },
    { boot with script := [.hostProgram], hostProg := [.retryUnlessOk 0x40 0x08 0xFF], resp := .busFailure },
    { boot with script := [.hostProgram], hostProg := [.retryUnlessOk 0x40 0x08 0xFF] },
    ⟨rfl, rfl, rfl⟩, ⟨rfl, rfl, rfl⟩, ⟨rfl, rfl, rfl⟩, rfl, rfl, rfl⟩

/-- A faulted LMC whose next turn is a tick that counts: the premises of FaultedLmcIsFrozen and FaultIsSticky. -/
theorem test_witness_faulted :
    ∃ s s' : State, s.fault = some .hostAccess ∧ s.nextTurn.1 = .tick ∧ s.nextTurn.1 ≠ .powerOn ∧
      s.tbCfg = true ∧ s.tbRun = true ∧ step s = .next s' ∧ s'.cnt = 1 :=
  ⟨{ boot with fault := some .hostAccess, tbRun := true, script := [.tick] }, _, rfl, rfl, by decide, rfl, rfl, rfl,
    by decide⟩

/-- A faulted LMC whose next turn is not a tick. -/
theorem test_witness_faulted_controller :
    ∃ s s' : State, s.fault = some .busNotEnabled ∧ s.nextTurn.1 = .controller ∧ s.nextTurn.1 ≠ .powerOn ∧
      s.nextTurn.1 ≠ .tick ∧ step s = .next s' :=
  ⟨{ started atReset 0x02000000 [] with fault := some .busNotEnabled }, _, rfl, rfl, by decide, by decide, rfl⟩

theorem test_witness_busPeerCompletesPhase :
    ∃ s t u : State, (s.script = [.busPeer 0x50 0x3C] ∧ s.fault = none ∧ s.bdPend ≠ .none) ∧
      (t.script = [.busPeer 0x50 0x3C] ∧ t.bdPend = .none) ∧
      u.script = [.controller] ∧ u.ctl = .waitBus .respondByte ∧ u.bdPend ≠ .none :=
  ⟨{ boot with bdPend := .read true, script := [.busPeer 0x50 0x3C] }, placed boot [.busPeer 0x50 0x3C],
    { waiting boot .respondByte 0 with bdPend := .read true }, ⟨rfl, rfl, by decide⟩, ⟨rfl, rfl⟩, rfl, rfl, by decide⟩

/-- The Controller at IDLE, with the turn its own. -/
theorem test_witness_controllerIdle :
    (placed boot [.controller]).script = [.controller] ∧ (placed boot [.controller]).ctl = .idle := by decide

/-- A Host program at an access, and one at its end. -/
theorem test_witness_hostProgramAccess :
    ∃ s t : State, (s.script = [.hostProgram] ∧ s.hostProg = [.access (writeArg 2), .wait]) ∧
      t.script = [.hostProgram] ∧ t.hostProg = [] :=
  ⟨{ boot with script := [.hostProgram], hostProg := [.access (writeArg 2), .wait] }, placed boot [.hostProgram],
    ⟨rfl, rfl⟩, rfl, rfl⟩

/-- A faulted LMC whose next turn is a tick while the Time Base is stopped. -/
theorem test_witness_faulted_stopped :
    ∃ s s' : State, s.fault = some .hostAccess ∧ s.nextTurn.1 = .tick ∧ s.tbRun = false ∧ step s = .next s' :=
  ⟨{ boot with fault := some .hostAccess, script := [.tick] }, _, rfl, rfl, rfl, rfl⟩

theorem test_witness_tickCounts :
    ∃ s t : State, (s.script = [.tick] ∧ s.tbCfg = true ∧ s.tbRun = true ∧ s.cnt = 2 ^ s.cfg.tbWidth - 1) ∧
      t.script = [.tick] ∧ t.tbRun = false :=
  ⟨{ boot with tbRun := true, cnt := 0xFFFFFFFF, script := [.tick] }, placed boot [.tick], by decide, rfl, rfl⟩

/-- A tick raises the counter; the wrap, TB_CLEAR, the end of a sweep and power-on lower it. -/
theorem test_witness_counterChangesOnly :
    (∃ s s' : State, step s = .next s' ∧ s.cnt < s'.cnt) ∧
    (∃ s s' : State, step s = .next s' ∧ s'.cnt < s.cnt ∧ s.nextTurn.1 = .tick) ∧
    (∃ s s' : State, step s = .next s' ∧ s'.cnt < s.cnt ∧ decode s.cmd = .ok .tbClear) ∧
    (∃ s s' : State, step s = .next s' ∧ s'.cnt < s.cnt ∧ (scanOf s.ctl).isSome = true) ∧
    ∃ s s' : State, step s = .next s' ∧ s'.cnt < s.cnt ∧ s.nextTurn.1 = .powerOn :=
  ⟨⟨{ boot with tbRun := true, script := [.tick] }, _, rfl, by decide⟩,
    ⟨{ boot with tbRun := true, cnt := 0xFFFFFFFF, script := [.tick] }, _, rfl, by decide, rfl⟩,
    ⟨started { boot with cnt := 5 } 0x23000000 [], _, rfl, by decide, rfl⟩,
    ⟨atTest boot 0 1 5, _, rfl, by decide, rfl⟩,
    ⟨{ boot with cnt := 5, script := [.powerOn] }, _, rfl, by decide, rfl⟩⟩

theorem test_witness_bdStartRuns :
    boot.bdEn = true ∧ Starts (started boot 0x02000000 [.busPeer 0x10 0, .controller]) .bdStart
      [.busPeer 0x10 0, .controller] ∧ atReset.bdEn = false ∧ atReset.fault = none := by decide

theorem test_witness_bdStopDoesNotWait : boot.bdEn = true ∧ atReset.bdEn = false ∧ atReset.fault = none := by decide

theorem test_witness_bdWriteRuns :
    Starts (started boot 0x040000A5 [.busPeer 0x2F 0, .controller]) (.bdWrite 0xA5) [.busPeer 0x2F 0, .controller] ∧
      boot.bdEn = true ∧ atReset.bdEn = false ∧ atReset.fault = none := by decide

theorem test_witness_bdReadsRun :
    Starts (started boot 0x05000000 [.busPeer 0x50 0x3C, .controller]) .bdReadAck [.busPeer 0x50 0x3C, .controller] ∧
      Starts (started boot 0x06000000 [.busPeer 0x5F 0xFF, .controller]) .bdReadNack
        [.busPeer 0x5F 0xFF, .controller] ∧ boot.bdEn = true ∧ atReset.bdEn = false ∧ atReset.fault = none := by decide

theorem test_witness_bdStatusReads :
    ({ boot with stat := some 0x08 } : State).stat = some 0x08 ∧ atReset.stat = none := by decide

theorem test_witness_busNotEnabledFault :
    ∃ s : State, s.bdEn = false ∧ s.fault = none ∧ s.cfg.initSeq ≠ [] ∧ s.tbCfg = true ∧
      s.arg.toNat < 2 ^ s.cfg.tbWidth :=
  ⟨{ atReset with tbCfg := true }, by decide⟩

theorem test_witness_addressByteIsShifted : (0xFE : Byte).toNat % 2 = 0 ∧ slaw 0x7F = 0xFE := by decide

theorem test_witness_rtWriteRegBeginsWithStart : boot.bdEn = true := by decide

/-- No mismatch, and a first mismatch at each phase. -/
theorem test_witness_registerWriteRuns :
    boot.bdEn = true ∧
      Starts (started boot 0x104008FF (phaseTurns [0x08, 0x18, 0x28, 0x28])) (.rtWriteReg 0x40 0x08 0xFF)
        (phaseTurns [0x08, 0x18, 0x28, 0x28]) ∧
      firstMismatch 0xF8 [0x0F, 0x1F, 0x2D, 0x2A] = none ∧
      firstMismatch 0xF8 [0x10, 0, 0, 0] = some (.start, 0x10) ∧
      firstMismatch 0xF8 [0x08, 0x20, 0, 0] = some (.address, 0x20) ∧
      firstMismatch 0xF8 [0x08, 0x18, 0x30, 0] = some (.register, 0x30) ∧
      firstMismatch 0xF8 [0x08, 0x18, 0x28, 0x18] = some (.data, 0x18) := by decide

/-- A first BUS_FAILURE, and one answered while RESP already holds the code. -/
theorem test_witness_busFailureOnlyFromRegisterWrite :
    (∃ s s' : State, step s = .next s' ∧ s'.resp = .busFailure ∧ s.resp ≠ .busFailure) ∧
      ∃ s s' : State, step s = .next s' ∧ s'.resp = .busFailure ∧ s.resp = .busFailure ∧
        s.busy = true ∧ s'.busy = false :=
  ⟨⟨waiting boot (rt .start) 0x10, _, rfl, by decide, by decide⟩,
    ⟨{ waiting boot (rt .data) 0x30 with resp := .busFailure }, _, rfl, by decide, rfl, rfl, by decide⟩⟩

theorem test_witness_chipInitBegins :
    ({ atReset with cfg := { exBoard with initSeq := [] } } : State).cfg.initSeq = [] ∧
      boot.cfg.initSeq = (0x00, 0x01) :: [] ∧ boot.bdEn = true := by decide

theorem test_witness_chipInitRetriesAtOnce :
    ∃ (s : State) (t : Txn), s.fault = none ∧ s.script = [.controller] ∧ s.ctl = .waitBus (.txn t (.chipInit 0x41 0)) ∧
      s.bdPend = .none ∧ s.bdEn = true ∧ s.stat = some 0x10 ∧ 0x10 ≠ t.ph.expected ∧
      s.cfg.initSeq[0]? = some (0x00, 0x01) :=
  ⟨waiting boot (.txn { addr := 0x41, reg := 0x00, val := 0x01, ph := .start } (.chipInit 0x41 0)) 0x10,
    { addr := 0x41, reg := 0x00, val := 0x01, ph := .start }, rfl, rfl, rfl, rfl, rfl, rfl, by decide, rfl⟩

/-- The two-write sequence of CI6. -/
theorem test_witness_chipInitWritesSequence :
    let s := started { boot with cfg := { exBoard with initSeq := [(0x00, 0x01), (0x01, 0x04)] } } 0x11410000
      (goodTurns ++ goodTurns)
    s.bdEn = true ∧ MaskKeepsCodes s ∧
      Starts s (.chipInit 0x41) ((s.cfg.initSeq.flatMap fun _ => goodTurns) ++ []) := by decide

theorem test_witness_sweepBegins : boot.bdEn = true ∧ boot.tbCfg = true ∧ boot.arg.toNat < 2 ^ boot.cfg.tbWidth := by decide

theorem test_witness_sweepRejectsWidePeriod :
    let s := { boot with cfg := { exBoard with tbWidth := 16 }, arg := 0x00010000 }
    2 ^ s.cfg.tbWidth ≤ s.arg.toNat := by decide

theorem test_witness_timeBaseNotConfiguredFault :
    atReset.tbCfg = false ∧ atReset.fault = none ∧ atReset.arg.toNat < 2 ^ atReset.cfg.tbWidth := by decide

/-- The premises of SweepMakesOnePass and of PassCounts. -/
theorem test_witness_sweepMakesOnePass :
    ∃ s : State, s.bdEn = true ∧ s.tbCfg = true ∧ s.arg = 0 ∧ MaskKeepsCodes s ∧
      Starts s .sweep ((List.replicate 486 goodTurns).flatten ++ []) :=
  ⟨started boot 0x40000000 ((List.replicate 486 goodTurns).flatten ++ []), rfl, rfl, rfl, by decide, rfl, rfl, rfl, rfl⟩

/-- A transaction of a sweep over with the given status and failure count, and the scan it goes on with. -/
def sweepGoesOn (ph : Phase) (st : Byte) (se se' : Scan) : Prop :=
  ∃ (s : State) (t : Txn), t.ph = ph ∧ PhaseDone s t (.sweep se) st [] ∧ TxnOver t st ∧
    scanPos se' = scanPos se + 1 ∧ se'.base = se.base ∧ se'.period = se.period ∧
    se'.fails.toNat = failsAfter (st != t.ph.expected) se.fails

/-- A scan of base 0 and period 2. -/
def scanAt (i r : Fin 9) (ch : Fin 3) (half : Half) (fails : Word) : Scan :=
  { base := 0, period := 2, i := i, r := r, ch := ch, half := half, fails := fails }

/-- A failure within the column at the count's bound, a failure at the column's last transaction, a success there. -/
theorem test_witness_sweepCountsFailure :
    sweepGoesOn .address 0x20 (scanAt 0 0 0 .low 0xFFFFFFFF) (scanAt 0 0 0 .high 0xFFFFFFFF) ∧
      sweepGoesOn .start 0x10 (scanAt 3 8 2 .high 5) (scanAt 4 0 0 .low 6) ∧
      sweepGoesOn .data 0x28 (scanAt 7 8 2 .high 6) (scanAt 8 0 0 .low 6) :=
  ⟨⟨waiting boot (.txn { addr := 0x40, reg := 0x08, val := 0, ph := .address }
        (.sweep (scanAt 0 0 0 .low 0xFFFFFFFF))) 0x20,
      { addr := 0x40, reg := 0x08, val := 0, ph := .address },
      rfl, ⟨rfl, rfl, rfl, rfl, rfl, rfl⟩, .inl (by decide), rfl, rfl, rfl, by decide⟩,
    ⟨waiting boot (.txn { addr := 0x41, reg := 0x31, val := 0, ph := .start } (.sweep (scanAt 3 8 2 .high 5))) 0x10,
      { addr := 0x41, reg := 0x31, val := 0, ph := .start },
      rfl, ⟨rfl, rfl, rfl, rfl, rfl, rfl⟩, .inl (by decide), rfl, rfl, rfl, by decide⟩,
    ⟨waiting boot (.txn { addr := 0x41, reg := 0x31, val := 0, ph := .data } (.sweep (scanAt 7 8 2 .high 6))) 0x28,
      { addr := 0x41, reg := 0x31, val := 0, ph := .data },
      rfl, ⟨rfl, rfl, rfl, rfl, rfl, rfl⟩, .inr rfl, rfl, rfl, rfl, by decide⟩⟩

/-- The spec's SE11 at a column's end: the failed START is counted, and the next column is lit before the next START. -/
theorem test_sweep_failure_at_column_end :
    after (step (waiting boot (.txn { addr := 0x41, reg := 0x31, val := 0, ph := .start }
        (.sweep (scanAt 3 8 2 .high 5))) 0x10)) (fun t => (t.busTrace, t.outTrace, scanOf t.ctl)) =
      some ([.start], [.en 0x010], some (scanAt 4 0 0 .low 6)) := by decide

/-- Both sides of the loop test, elapsed 3 against periods 3 and 4, and a pass whose last transaction succeeds or fails. -/
theorem test_witness_sweepTestsAfterPass :
    ∃ (s u : State) (t t' : Txn) (se se' : Scan),
      (PhaseDone s t (.sweep se) 0x28 [] ∧ TxnOver t 0x28) ∧
      (PhaseDone u t' (.sweep se) 0x20 [] ∧ TxnOver t' 0x20) ∧
      se.i = 8 ∧ se.r = 8 ∧ se.ch = 2 ∧ se.half = .high ∧
      ((3 : Nat) : Int) = ((s.cnt : Int) - se.base) % 2 ^ s.cfg.tbWidth ∧
      scanPos se' = 0 ∧ se'.base = se.base ∧ se'.period = se.period ∧
      se'.fails.toNat = failsAfter (0x28 != t.ph.expected) se.fails ∧
      ({ se' with fails := 2 } : Scan).fails.toNat = failsAfter (0x20 != t'.ph.expected) se.fails ∧
      se.period ≤ 3 ∧ 3 < { se with period := 4 }.period :=
  ⟨atTest boot 0xFFFFFFFE 3 1,
    waiting boot (.txn { addr := 0x41, reg := 0x31, val := 0x00, ph := .address }
      (.sweep { base := 0xFFFFFFFE, period := 3, i := 8, r := 8, ch := 2, half := .high, fails := 1 })) 0x20,
    { addr := 0x41, reg := 0x31, val := 0x00, ph := .data }, { addr := 0x41, reg := 0x31, val := 0x00, ph := .address },
    { base := 0xFFFFFFFE, period := 3, i := 8, r := 8, ch := 2, half := .high, fails := 1 },
    { base := 0xFFFFFFFE, period := 3, i := 0, r := 0, ch := 0, half := .low, fails := 1 },
    ⟨⟨rfl, rfl, rfl, rfl, rfl, rfl⟩, .inr rfl⟩, ⟨⟨rfl, rfl, rfl, rfl, rfl, rfl⟩, .inl (by decide)⟩,
    rfl, rfl, rfl, rfl, by decide, rfl, rfl, rfl, by decide, by decide, by decide, by decide⟩

/-- A sweep that ends with a success, and one that ends with a failure. -/
theorem test_witness_sweepEndsOnlyAfterPeriod :
    ∃ (s s' u u' : State) (t : Txn) (se : Scan),
      (s.ctl = .waitBus (.txn t (.sweep se)) ∧ step s = .next s' ∧ s.nextTurn.1 ≠ .powerOn ∧ s'.ctl = .idle ∧
        s'.result = 1) ∧
      u.ctl = .waitBus (.txn t (.sweep se)) ∧ step u = .next u' ∧ u.nextTurn.1 ≠ .powerOn ∧ u'.ctl = .idle ∧
        u'.result = 2 :=
  ⟨atTest boot 0 3 3, _, { atTest boot 0 3 3 with stat := some 0x30 }, _,
    { addr := 0x41, reg := 0x31, val := 0x00, ph := .data },
    { base := 0, period := 3, i := 8, r := 8, ch := 2, half := .high, fails := 1 },
    ⟨rfl, rfl, by decide, by decide, by decide⟩, rfl, rfl, by decide, by decide, by decide⟩

theorem test_witness_atMostOneColumnPowered :
    enLegal 0x100 = true ∧ enLegal 0 = true ∧ (0x100#9).getLsbD (8 : Fin 9).val = true := by decide

theorem test_witness_outputsOnlyFromSweep :
    ∃ s s' : State, step s = .next s' ∧ s'.en ≠ s.en ∧ s'.hb ≠ s.hb ∧ s'.outTrace ≠ s.outTrace :=
  ⟨started boot 0x40000000 [], _, rfl, by decide, by decide, by decide⟩

theorem test_witness_timeBaseCommands :
    boot.tbCfg = true ∧ atReset.tbCfg = false ∧ atReset.fault = none ∧ boot.cnt < 2 ^ 32 := by decide

theorem test_witness_bufClearZeroesEveryCell : (8 : BitVec 4) ≤ 8 ∧ (8 : BitVec 4) ≤ 8 ∧ (2 : BitVec 2) ≤ 2 := by decide

/-- The least and the greatest normalized value. -/
theorem test_witness_setBrightnessStoresQuantized :
    (0 ≤ (0x00000000 : Word).toInt ∧ (0x00000000 : Word).toInt ≤ 65536) ∧
      0 ≤ (0x00010000 : Word).toInt ∧ (0x00010000 : Word).toInt ≤ 65536 := by decide

/-- Each clause at its boundary. -/
theorem test_witness_outOfRangeInputRejected :
    8 < (9 : BitVec 4) ∧ 2 < (3 : BitVec 2) ∧ (0xFFFFFFFF : Word).toInt < 0 ∧ 65536 < (0x00010001 : Word).toInt ∧
      (8 : BitVec 4) ≤ 8 ∧ (2 : BitVec 2) ≤ 2 ∧ boot.arg = 0 ∧
      ({ boot with arg := 0x00010000 } : State).arg = 0x00010000 := by decide

/-- Values the rational clause takes in, at both ends of the range, and the integer clause's bounds. -/
theorem test_witness_quantizeIsRationalRounding :
    (0 ≤ normalizedValue 0 ∧ normalizedValue 0 ≤ 1) ∧ (0 ≤ normalizedValue 0x00010000 ∧ normalizedValue 0x00010000 ≤ 1) ∧
      65536 ≤ 65536 ∧ 2 ^ 32 - 1 < 2 ^ 32 :=
  ⟨(normalizedOk_iff _).1 (by decide), (normalizedOk_iff _).1 (by decide), by decide, by decide⟩

theorem test_witness_bufferWrittenOnlyByItsCommands :
    (∃ s s' : State, step s = .next s' ∧ s'.buf ≠ s.buf ∧ decode s.cmd = .ok .bufClear) ∧
      ∃ s s' : State, step s = .next s' ∧ s'.buf ≠ s.buf ∧ decode s.cmd = .ok (.bufSetBrightness 0 0 0) :=
  ⟨⟨started (boot.writeCell 0 1) 0x30000000 [], _, rfl,
      fun h => absurd (congrArg (fun v => v[0]) h) (by decide), rfl⟩,
    ⟨started { boot with arg := 0x00010000 } 0x31000000 [], _, rfl,
      fun h => absurd (congrArg (fun v => v[0]) h) (by decide), rfl⟩⟩

theorem test_witness_execFrame :
    ∃ t : State, exec .tbClear { boot with cnt := 7, fault := some .hostAccess } = .next t := ⟨_, rfl⟩

/-- A read command, and a register write while `RXD` is UNKNOWN. -/
theorem test_witness_resumeFrame :
    (∃ s : State, s.rxd.isSome = true ∧ scanOf (.waitBus .respondByte) = none ∧
      (s.resume .respondByte).result ≠ s.result) ∧
    ∃ s : State, s.stat.isSome = true ∧ s.rxd = none ∧ rt .start ≠ .respondByte ∧ scanOf (.waitBus (rt .start)) = none ∧
      (s.resume (rt .start)).resp ≠ s.resp :=
  ⟨⟨{ waiting boot .respondByte 0x50 with rxd := some 0x3C }, rfl, rfl, by decide⟩,
    ⟨waiting boot (rt .start) 0x10, rfl, rfl, by decide, rfl, by decide⟩⟩

theorem test_witness_historiesGrowAndBoardStays :
    ∃ s s' : State, step s = .next s' ∧ s.nextTurn.1 ≠ .powerOn ∧ s'.busTrace ≠ s.busTrace :=
  ⟨started boot 0x02000000 [], _, rfl, by decide, by decide⟩

theorem test_witness_answerOnlyAtTheEnd :
    ∃ s s' : State, step s = .next s' ∧ s'.result ≠ s.result ∧ s'.resp ≠ s.resp ∧ s.busy = true ∧ s'.busy = false :=
  ⟨waiting boot (rt .start) 0x10, _, rfl, by decide, by decide, rfl, by decide⟩

theorem test_witness_powerOnResets : (placed boot [.powerOn]).script = .powerOn :: [] := rfl

/-- A state in the middle of a sweep that meets every clause of the invariant. -/
theorem test_witness_stepKeepsInvariant :
    ∃ s s' : State, LmcInv s ∧ scanOf s.ctl ≠ none ∧ step s = .next s' :=
  ⟨{ boot with
      busy := true, tbRun := true, en := 0x001, outTrace := [.en 0x001], bdPend := .start
      ctl := .waitBus (.txn { addr := 0x40, reg := 0x08, val := 0x00, ph := .start }
        (.sweep { base := 0, period := 1, i := 0, r := 0, ch := 0, half := .low, fails := 0 }))
      script := [.busPeer 0x08 0] }, _,
    { enLegal := by decide
      busyCtl := by decide
      pendWait := fun _ => ⟨_, rfl, rfl⟩
      statKnown := fun _ _ h => nomatch h
      rxdKnown := fun h _ => nomatch h
      statMasked := fun _ h => nomatch h
      waitEnabled := fun _ _ => rfl
      cntBound := by decide
      sweepOn := by rintro se ⟨⟩; decide
      sweepOff := fun _ h => nomatch h
      txnOk := by decide
      outTail := by decide }, by decide, rfl⟩

/-- A Controller's turn that ends the command, and one that goes on to the next phase, both with no fault. -/
theorem test_witness_controllerTurnPending :
    (∃ s s' : State, LmcInv s ∧ s.nextTurn.1 = .controller ∧ step s = .next s' ∧ s'.fault = none ∧ s'.ctl = .idle) ∧
      ∃ (s s' : State) (w : Wait), LmcInv s ∧ s.nextTurn.1 = .controller ∧ step s = .next s' ∧ s'.fault = none ∧
        s'.ctl = .waitBus w ∧ s'.bdPend = .write 0x80 := by
  refine ⟨⟨waiting boot .respondZero 0x08, _, ?_, rfl, rfl, rfl, rfl⟩,
    ⟨waiting boot (.txn { addr := 0x40, reg := 0x08, val := 0x00, ph := .start } .writeReg) 0x08, _, _, ?_, rfl, rfl,
      rfl, rfl, rfl⟩⟩
  all_goals exact
    { enLegal := by decide
      busyCtl := by decide
      pendWait := fun h => absurd rfl h
      statKnown := fun _ _ _ => rfl
      rxdKnown := fun h _ => nomatch h
      statMasked := by rintro v ⟨⟩; decide
      waitEnabled := fun _ _ => rfl
      cntBound := by decide
      sweepOn := fun _ h => nomatch h
      sweepOff := fun _ _ => rfl
      txnOk := by decide
      outTail := by decide }

/-- Each phase for SWEEP with a failure behind it, the last phase for the other two callers, the next and the last write
of CHIP_INIT, and a mismatch. -/
theorem test_witness_writeRegisterAdvances :
    (∀ p ∈ ([(.start, 0x08), (.address, 0x18), (.register, 0x28), (.data, 0x28)] : List (Phase × Byte)),
      PhaseDone (waiting boot (.txn { addr := 0x40, reg := 0x08, val := 0, ph := p.1 } (.sweep (scanAt 0 0 0 .low 1))) p.2)
        { addr := 0x40, reg := 0x08, val := 0, ph := p.1 } (.sweep (scanAt 0 0 0 .low 1)) p.2 []) ∧
    PhaseDone (waiting boot (rt .data) 0x28) { addr := 0x40, reg := 0x08, val := 0xFF, ph := .data } .writeReg 0x28 [] ∧
    PhaseDone (waiting boot (rt .data) 0x18) { addr := 0x40, reg := 0x08, val := 0xFF, ph := .data } .writeReg 0x18 [] ∧
    0x18 ≠ Phase.data.expected ∧
    (∃ s : State, PhaseDone s { addr := 0x41, reg := 0x00, val := 0x01, ph := .data } (.chipInit 0x41 0) 0x28 [] ∧
      s.cfg.initSeq[0 + 1]? = some (0x01, 0x04)) ∧
    ∃ s : State, PhaseDone s { addr := 0x41, reg := 0x00, val := 0x01, ph := .data } (.chipInit 0x41 0) 0x28 [] ∧
      s.cfg.initSeq.length ≤ 0 + 1 :=
  ⟨fun _ _ => ⟨rfl, rfl, rfl, rfl, rfl, rfl⟩, ⟨rfl, rfl, rfl, rfl, rfl, rfl⟩, ⟨rfl, rfl, rfl, rfl, rfl, rfl⟩, by decide,
    ⟨{ waiting boot (.txn { addr := 0x41, reg := 0x00, val := 0x01, ph := .data } (.chipInit 0x41 0)) 0x28 with
        cfg := { exBoard with initSeq := [(0x00, 0x01), (0x01, 0x04)] } }, ⟨rfl, rfl, rfl, rfl, rfl, rfl⟩, rfl⟩,
    ⟨waiting boot (.txn { addr := 0x41, reg := 0x00, val := 0x01, ph := .data } (.chipInit 0x41 0)) 0x28,
      ⟨rfl, rfl, rfl, rfl, rfl, rfl⟩, by decide⟩⟩

end Sys2Proof.Tests
end

section
/-! SUPPORT. What each kind of turn can change, said once: the taking of the turn, the turns of the Host, the BusPeer and
the Tick, and the Controller's turn (R8, R71, R241). -/

namespace Sys2Proof.Machine

/-! ### The taking of a turn changes no element of the LMC (R71) -/

section
variable (s : State)

@[simp] theorem State.nextTurn_cfg : s.nextTurn.2.cfg = s.cfg := by rw [nextTurn_frame]
@[simp] theorem State.nextTurn_cmd : s.nextTurn.2.cmd = s.cmd := by rw [nextTurn_frame]
@[simp] theorem State.nextTurn_result : s.nextTurn.2.result = s.result := by rw [nextTurn_frame]
@[simp] theorem State.nextTurn_busy : s.nextTurn.2.busy = s.busy := by rw [nextTurn_frame]
@[simp] theorem State.nextTurn_resp : s.nextTurn.2.resp = s.resp := by rw [nextTurn_frame]
@[simp] theorem State.nextTurn_ctl : s.nextTurn.2.ctl = s.ctl := by rw [nextTurn_frame]
@[simp] theorem State.nextTurn_buf : s.nextTurn.2.buf = s.buf := by rw [nextTurn_frame]
@[simp] theorem State.nextTurn_en : s.nextTurn.2.en = s.en := by rw [nextTurn_frame]
@[simp] theorem State.nextTurn_hb : s.nextTurn.2.hb = s.hb := by rw [nextTurn_frame]
@[simp] theorem State.nextTurn_busTrace : s.nextTurn.2.busTrace = s.busTrace := by rw [nextTurn_frame]
@[simp] theorem State.nextTurn_outTrace : s.nextTurn.2.outTrace = s.outTrace := by rw [nextTurn_frame]
@[simp] theorem State.nextTurn_fault : s.nextTurn.2.fault = s.fault := by rw [nextTurn_frame]

end

/-! ### The turns of the environment -/

/-- What a turn of the Host, the BusPeer or the Tick can do to `s` (R24, R64, R102, R190, R234, R235). -/
inductive EnvMove (s : State) : State → Prop
  /-- Nothing of the LMC changes. -/
  | outside (p : List HostOp) (d : Option Word) (n : Nat) :
      EnvMove s { s with hostProg := p, hostData := d, draws := n }
  /-- A Host access faults. -/
  | hostFault (p : List HostOp) (d : Option Word) (n : Nat) (k : Fault) (hf : s.fault = none) :
      EnvMove s { s with hostProg := p, hostData := d, draws := n, fault := some k }
  /-- A Host write of CMD starts a command. -/
  | start (p : List HostOp) (d : Option Word) (n : Nat) (w : Word) (hf : s.fault = none) (hb : s.busy = false) :
      EnvMove s { s with hostProg := p, hostData := d, draws := n, cmd := w, busy := true, ctl := .start }
  /-- A Host write of ARG stores the operand. -/
  | arg (p : List HostOp) (d : Option Word) (n : Nat) (w : Word) (hf : s.fault = none) (hb : s.busy = false) :
      EnvMove s { s with hostProg := p, hostData := d, draws := n, arg := w }
  /-- The BusPeer completes the pending phase. -/
  | complete (raw rx : Byte) (hf : s.fault = none) (hp : s.bdPend ≠ .none) : EnvMove s (s.completePhase raw rx)
  /-- The Time Base counts. -/
  | tick (hc : s.tbCfg = true) (hr : s.tbRun = true) : EnvMove s s.countTick

/-- A turn that holds is a move of the environment. -/
theorem EnvMove.hold (s : State) : EnvMove s s := .outside s.hostProg s.hostData s.draws

theorem setProg_hostAccess_envMove (s : State) (p : List HostOp) (a : HostAccess) :
    EnvMove s ((s.setProg p).hostAccess a) := by
  obtain ⟨d, n, h | ⟨k, hf, h⟩ | ⟨hf, hb, ⟨w, h⟩ | ⟨w, h⟩⟩⟩ := hostAccess_cases (s.setProg p) a <;> rw [h]
  · exact .outside p d n
  · exact .hostFault p d n k hf
  · exact .start p d n w hf hb
  · exact .arg p d n w hf hb

/-- Every turn but the Controller's and power-on is a move of the environment. -/
theorem turn_envMove {s s' : State} {t : Turn} (hc : t ≠ .controller) (hp : t ≠ .powerOn)
    (h : s.turn t = .next s') : EnvMove s s' := by
  cases t with
  | host a => cases h; exact setProg_hostAccess_envMove s s.hostProg a
  | hostProgram =>
    cases h
    obtain h | ⟨p, a, h⟩ := hostProgramStep_cases s <;> rw [h]
    · exact .hold s
    · exact setProg_hostAccess_envMove s p a
  | controller => exact absurd rfl hc
  | busPeer raw rx =>
    cases h
    unfold State.busPeerStep
    split
    · next hpf => exact .complete raw rx hpf.2 hpf.1
    · exact .hold s
  | tick =>
    cases h
    unfold State.tickStep
    split
    · next hcr => exact .tick hcr.1 hcr.2
    · exact .hold s
  | powerOn => exact absurd rfl hp

/-- What the environment leaves alone: the answer, the Buffer, the outputs, the histories and the board. -/
theorem EnvMove.frame {s s' : State} (h : EnvMove s s') :
    s' = { s with
      cmd := s'.cmd, arg := s'.arg, busy := s'.busy, ctl := s'.ctl, bdPend := s'.bdPend, stat := s'.stat,
      rxd := s'.rxd, cnt := s'.cnt, fault := s'.fault, hostProg := s'.hostProg, hostData := s'.hostData,
      draws := s'.draws } := by
  cases h with
  | complete raw rx hf hp =>
    unfold State.completePhase
    split <;> rfl
  | outside | hostFault | start | arg | tick => rfl

/-- The environment never clears BUSY (R24). -/
theorem EnvMove.busy_of_busy {s s' : State} (h : EnvMove s s') (hb : s.busy = true) : s'.busy = true := by
  cases h with
  | complete raw rx => simpa using hb
  | start => rfl
  | outside | hostFault | arg | tick => exact hb

/-- The environment never clears or replaces a fault (R41, R236). -/
theorem EnvMove.fault_of_fault {s s' : State} {k : Fault} (h : EnvMove s s') (hk : s.fault = some k) :
    s'.fault = some k := by
  cases h with
  | complete raw rx => simpa using hk
  | hostFault p d n k' hf => simp [hf] at hk
  | outside | start | arg | tick => exact hk

/-! ### The Controller's turn -/

/-- What the own update of a command off the bus leaves alone. -/
theorem ownUpdate_frame (i : Instr) (s : State) :
    ownUpdate i s = { s with
      bdEn := (ownUpdate i s).bdEn, tbCfg := (ownUpdate i s).tbCfg, tbRun := (ownUpdate i s).tbRun,
      cnt := (ownUpdate i s).cnt, buf := (ownUpdate i s).buf, scale := (ownUpdate i s).scale } := by
  cases i with
  | bufSetBrightness r c h =>
    dsimp only [ownUpdate]
    cases cellOf r c h <;> rfl
  | _ => rfl

section
variable (i : Instr) (s : State)

@[simp] theorem ownUpdate_cfg : (ownUpdate i s).cfg = s.cfg := by rw [ownUpdate_frame]
@[simp] theorem ownUpdate_busy : (ownUpdate i s).busy = s.busy := by rw [ownUpdate_frame]
@[simp] theorem ownUpdate_ctl : (ownUpdate i s).ctl = s.ctl := by rw [ownUpdate_frame]
@[simp] theorem ownUpdate_bdPend : (ownUpdate i s).bdPend = s.bdPend := by rw [ownUpdate_frame]
@[simp] theorem ownUpdate_stat : (ownUpdate i s).stat = s.stat := by rw [ownUpdate_frame]
@[simp] theorem ownUpdate_en : (ownUpdate i s).en = s.en := by rw [ownUpdate_frame]
@[simp] theorem ownUpdate_hb : (ownUpdate i s).hb = s.hb := by rw [ownUpdate_frame]
@[simp] theorem ownUpdate_busTrace : (ownUpdate i s).busTrace = s.busTrace := by rw [ownUpdate_frame]
@[simp] theorem ownUpdate_outTrace : (ownUpdate i s).outTrace = s.outTrace := by rw [ownUpdate_frame]
@[simp] theorem ownUpdate_fault : (ownUpdate i s).fault = s.fault := by rw [ownUpdate_frame]

end

/-- An own update leaves CNT or clears it (R195). -/
theorem ownUpdate_cnt (i : Instr) (s : State) : (ownUpdate i s).cnt = s.cnt ∨ (ownUpdate i s).cnt = 0 := by
  cases i with
  | tbClear => exact .inr rfl
  | bufSetBrightness r c h =>
    dsimp only [ownUpdate]
    cases cellOf r c h <;> exact .inl rfl
  | _ => exact .inl rfl

/-- No own update disables the Bus Driver (R26). -/
theorem ownUpdate_bdEn (i : Instr) {s : State} (hb : s.bdEn = true) : (ownUpdate i s).bdEn = true := by
  cases i with
  | bdInit => rfl
  | bufSetBrightness r c h =>
    dsimp only [ownUpdate]
    cases cellOf r c h <;> exact hb
  | _ => exact hb

/-- Of the own updates only those of BUF_CLEAR and BUF_SET_BRIGHTNESS write the Buffer (R35). -/
theorem ownUpdate_buf {i : Instr} (s : State) (hc : i ≠ .bufClear) (hs : ∀ r c h, i ≠ .bufSetBrightness r c h) :
    (ownUpdate i s).buf = s.buf := by
  cases i with
  | bufClear => exact absurd rfl hc
  | bufSetBrightness r c h => exact absurd rfl (hs r c h)
  | _ => rfl

/-- The Controller's turn belongs to a sweep: it is at the start of SWEEP or inside one. -/
def AtSweep (s : State) : Prop :=
  (s.ctl = .start ∧ decode s.cmd = .ok .sweep) ∨ ∃ se, Safety.scanOf s.ctl = some se

/-- What the Controller's turn can do to `s` (R21, R24, R102, R236). -/
inductive CtlMove (s : State) : State → Prop
  /-- The Controller has no step. -/
  | hold : CtlMove s s
  /-- A command off the bus does its own update and responds. -/
  | own (i : Instr) (c : Resp) (r : Word) (hf : s.fault = none) (hc : s.ctl = .start) (hd : decode s.cmd = .ok i) :
      CtlMove s ((ownUpdate i s).respond c r)
  /-- TB_START and SWEEP fault (R238). -/
  | noTimeBase (hf : s.fault = none) : CtlMove s (s.raise .tbNotConfigured)
  /-- Every other step ends in a response, the fault of R237 or a bus phase, and outside a sweep leaves the outputs. -/
  | ends (scan : Bool) (s' : State) (hf : s.fault = none) (hs : scan = true → AtSweep s) (h : Ends scan s s') :
      CtlMove s s'

theorem scanStart_ctlMove {s : State} (hf : s.fault = none) (hs : AtSweep s) : CtlMove s s.scanStart := by
  obtain ⟨-, h⟩ | ⟨-, -, h⟩ | ⟨-, -, h⟩ := scanStart_cases s
  · exact h ▸ .ends false _ hf nofun (respond_ends false s _ _)
  · exact h ▸ .noTimeBase hf
  · exact .ends true _ hf (fun _ => hs) h

theorem exec_ctlMove {s s' : State} {i : Instr} (hf : s.fault = none) (hc : s.ctl = .start)
    (hd : decode s.cmd = .ok i) (h : exec i s = .next s') : CtlMove s s' := by
  cases hi : offBus i with
  | true =>
    obtain ⟨c, r, rfl⟩ | ⟨r, rfl⟩ | ⟨-, -, rfl⟩ := exec_offBus hi h
    · exact .own i c r hf hc hd
    · exact .ends false _ hf nofun (respond_ends false s _ _)
    · exact .noTimeBase hf
  | false =>
    obtain ⟨-, h⟩ | ⟨rfl, rfl⟩ := exec_onBus hi h
    · exact .ends false _ hf nofun h
    · exact scanStart_ctlMove hf (.inl ⟨hc, hd⟩)

/-- A wait point that belongs to SWEEP holds the Scan Engine's registers. -/
theorem scanOf_of_scans {w : Wait} (h : w.scans = true) : ∃ se, Safety.scanOf (.waitBus w) = some se := by
  cases w with
  | txn t who =>
    cases who with
    | sweep se => exact ⟨se, rfl⟩
    | writeReg | chipInit => exact nomatch h
  | respondZero | respondByte => exact nomatch h

/-- A wait point outside a sweep holds none. -/
theorem scans_of_scanOf_none {w : Wait} (h : Safety.scanOf (.waitBus w) = none) : w.scans = false := by
  cases hw : w.scans with
  | false => rfl
  | true =>
    obtain ⟨se, hse⟩ := scanOf_of_scans hw
    simp [hse] at h

section
variable {s : State}

/-- While the LMC is faulted the Controller has no step (R236). -/
theorem controllerStep_faulted (hf : s.fault ≠ none) : s.controllerStep = .next s := by
  obtain ⟨k, hk⟩ := Option.ne_none_iff_exists'.mp hf
  simp [State.controllerStep, hk]

/-- At IDLE the Controller has no step (R21). -/
theorem controllerStep_idle (hc : s.ctl = .idle) : s.controllerStep = .next s := by
  unfold State.controllerStep
  cases s.fault <;> simp [hc]

/-- At the start of a command the Controller runs it (R24). -/
theorem controllerStep_start {i : Instr} (hf : s.fault = none) (hc : s.ctl = .start) (hd : decode s.cmd = .ok i) :
    s.controllerStep = exec i s := by
  simp [State.controllerStep, State.fetch, hf, hc, hd]

/-- A word that names no command is answered (R89). -/
theorem controllerStep_illegal {e : DecodeError} (hf : s.fault = none) (hc : s.ctl = .start)
    (hd : decode s.cmd = .error e) : s.controllerStep = .next s.illegal := by
  simp [State.controllerStep, State.fetch, hf, hc, hd]

/-- While a phase is pending the Controller has no step (R102). -/
theorem controllerStep_pending {w : Wait} (hc : s.ctl = .waitBus w) (hp : s.bdPend ≠ .none) :
    s.controllerStep = .next s := by
  unfold State.controllerStep
  cases s.fault with
  | some k => rfl
  | none => cases hb : s.bdPend <;> simp_all

/-- From a completed wait the Controller goes on (R102). -/
theorem controllerStep_resume {w : Wait} (hf : s.fault = none) (hc : s.ctl = .waitBus w) (hp : s.bdPend = .none) :
    s.controllerStep = .next (s.resume w) := by
  simp [State.controllerStep, hf, hc, hp]

end

/-- Everything the Controller's turn can do. -/
theorem controllerStep_ctlMove {s s' : State} (h : s.controllerStep = .next s') : CtlMove s s' := by
  obtain rfl | ⟨hf, hc, i, hd, h⟩ | ⟨hf, -, -, rfl⟩ | ⟨hf, w, hc, -, rfl⟩ := controllerStep_cases h
  · exact .hold
  · exact exec_ctlMove hf hc hd h
  · exact .ends false _ hf nofun (respond_ends false s _ _)
  · refine .ends w.scans _ hf (fun hw => .inr ?_) (resume_ends s w)
    exact hc ▸ scanOf_of_scans hw

/-! ### What a Controller's step that prepares and ends leaves alone -/

/-- Any such step writes the bus, the outputs, the Time Base, the control point, the answer and the fault alone. -/
theorem Ends.frame {scan : Bool} {s t : State} (h : Ends scan s t) :
    t = { s with
      draws := t.draws, busTrace := t.busTrace, stat := t.stat, en := t.en, hb := t.hb, outTrace := t.outTrace,
      tbRun := t.tbRun, cnt := t.cnt, result := t.result, resp := t.resp, busy := t.busy, ctl := t.ctl,
      bdPend := t.bdPend, fault := t.fault } := by
  obtain ⟨m, hm, he⟩ := h
  cases he with
  | respond c r => rw [hm.frame]; rfl
  | disabled hb =>
    rw [hm.frame]
    unfold State.raise
    split <;> rfl
  | issue e p w => rw [hm.frame]; rfl

/-- Such a step extends the histories (R40). -/
theorem Ends.histories {scan : Bool} {s t : State} (h : Ends scan s t) :
    (∃ es, t.busTrace = s.busTrace ++ es) ∧ ∃ es, t.outTrace = s.outTrace ++ es := by
  obtain ⟨m, ⟨-, ⟨es, hbus⟩, hout, -⟩, he⟩ := h
  cases he with
  | respond c r => exact ⟨⟨es, hbus⟩, hout⟩
  | disabled hb => exact ⟨⟨es, by simpa using hbus⟩, by simpa using hout⟩
  | issue e p w => exact ⟨⟨es ++ [e], by simp [hbus]⟩, hout⟩

/-- Outside a sweep such a step leaves the outputs and the Time Base (R33, R34, R38, R39). -/
theorem Ends.quiet {s t : State} (h : Ends false s t) :
    t.en = s.en ∧ t.hb = s.hb ∧ t.outTrace = s.outTrace ∧ t.tbRun = s.tbRun ∧ t.cnt = s.cnt := by
  obtain ⟨m, ⟨-, -, -, hq⟩, he⟩ := h
  cases he with
  | respond c r => exact hq rfl
  | disabled hb => simpa using hq rfl
  | issue e p w => exact hq rfl

/-- Such a step ends the command or leaves the answer and BUSY (R24). -/
theorem Ends.answer {scan : Bool} {s t : State} (h : Ends scan s t) :
    (t.busy = false ∧ t.ctl = .idle ∧ t.fault = s.fault) ∨
      (t.result = s.result ∧ t.resp = s.resp ∧ t.busy = s.busy) := by
  obtain ⟨m, ⟨hm, -, -, -⟩, he⟩ := h
  have hsame : m.result = s.result ∧ m.resp = s.resp ∧ m.busy = s.busy := by rw [hm]; exact ⟨rfl, rfl, rfl⟩
  cases he with
  | respond c r => exact .inl ⟨rfl, rfl, by rw [hm]; rfl⟩
  | disabled hb => exact .inr (by simpa using hsame)
  | issue e p w => exact .inr hsame

/-! ### What the Controller's turn leaves alone -/

/-- The Controller has no step while the LMC is faulted (R236). -/
theorem CtlMove.eq_of_fault {s s' : State} {k : Fault} (h : CtlMove s s') (hk : s.fault = some k) : s' = s := by
  cases h with
  | hold => rfl
  | own _ _ _ hf | noTimeBase hf | ends _ _ hf => simp [hf] at hk

theorem CtlMove.cfg {s s' : State} (h : CtlMove s s') : s'.cfg = s.cfg := by
  cases h with
  | hold => rfl
  | own i c r => exact ownUpdate_cfg i s
  | noTimeBase => exact s.raise_cfg _
  | ends scan _ _ _ h => rw [h.frame]

theorem CtlMove.histories {s s' : State} (h : CtlMove s s') :
    (∃ es, s'.busTrace = s.busTrace ++ es) ∧ ∃ es, s'.outTrace = s.outTrace ++ es := by
  cases h with
  | hold => exact ⟨⟨[], by simp⟩, [], by simp⟩
  | own i c r => exact ⟨⟨[], by simp⟩, [], by simp⟩
  | noTimeBase => exact ⟨⟨[], by simp⟩, [], by simp⟩
  | ends scan _ _ _ h => exact h.histories

/-- The outputs change only in a sweep (R38 to R40). -/
theorem CtlMove.outputs {s s' : State} (h : CtlMove s s') :
    (s.fault = none ∧ AtSweep s) ∨ (s'.en = s.en ∧ s'.hb = s.hb ∧ s'.outTrace = s.outTrace) := by
  cases h with
  | hold => exact .inr ⟨rfl, rfl, rfl⟩
  | own i c r => exact .inr ⟨ownUpdate_en i s, ownUpdate_hb i s, ownUpdate_outTrace i s⟩
  | noTimeBase => exact .inr ⟨s.raise_en _, s.raise_hb _, s.raise_outTrace _⟩
  | ends scan _ hf hs h =>
    cases scan with
    | true => exact .inl ⟨hf, hs rfl⟩
    | false =>
      obtain ⟨hen, hhb, hout, -⟩ := h.quiet
      exact .inr ⟨hen, hhb, hout⟩

/-- The Buffer changes only at the start of the two commands that write it (R35). -/
theorem CtlMove.buffer {s s' : State} (h : CtlMove s s') :
    s'.buf = s.buf ∨ (s.ctl = .start ∧
      (decode s.cmd = .ok .bufClear ∨ ∃ r c h, decode s.cmd = .ok (.bufSetBrightness r c h))) := by
  cases h with
  | hold => exact .inl rfl
  | own i c r hf hc hd =>
    rw [hd]
    by_cases h1 : i = .bufClear
    · exact .inr ⟨hc, .inl (h1 ▸ rfl)⟩
    · by_cases h2 : ∃ r c h, i = .bufSetBrightness r c h
      · obtain ⟨r, c, h, rfl⟩ := h2
        exact .inr ⟨hc, .inr ⟨r, c, h, rfl⟩⟩
      · exact .inl (ownUpdate_buf s h1 fun r c h hi => h2 ⟨r, c, h, hi⟩)
  | noTimeBase => exact .inl (s.raise_buf _)
  | ends scan _ _ _ h => exact .inl (by rw [h.frame])

/-- The Controller ends the command, without a fault, or leaves the answer and BUSY (R24, R236). -/
theorem CtlMove.answer {s s' : State} (h : CtlMove s s') :
    (s'.busy = false ∧ s'.ctl = .idle ∧ s'.fault = none) ∨
      (s'.result = s.result ∧ s'.resp = s.resp ∧ s'.busy = s.busy) := by
  cases h with
  | hold => exact .inr ⟨rfl, rfl, rfl⟩
  | own i c r hf => exact .inl ⟨rfl, rfl, (ownUpdate_fault i s).trans hf⟩
  | noTimeBase => exact .inr ⟨s.raise_result _, s.raise_resp _, s.raise_busy _⟩
  | ends scan _ hf _ h => exact hf ▸ h.answer

/-! ### One step -/

/-- A step is power-on, the Controller's turn or a move of the environment, once the turn is taken (R71, R241). -/
theorem step_cases {s s' : State} (h : step s = .next s') :
    (s.nextTurn.1 = .powerOn ∧ s' = s.nextTurn.2.powerOn) ∨
    (s.nextTurn.1 = .controller ∧ s.nextTurn.2.controllerStep = .next s') ∨
    (s.nextTurn.1 ≠ .powerOn ∧ s.nextTurn.1 ≠ .controller ∧ EnvMove s.nextTurn.2 s') := by
  unfold step at h
  by_cases hp : s.nextTurn.1 = .powerOn
  · rw [hp] at h
    cases h
    exact .inl ⟨hp, rfl⟩
  · by_cases hc : s.nextTurn.1 = .controller
    · rw [hc] at h
      exact .inr (.inl ⟨hc, h⟩)
    · exact .inr (.inr ⟨hp, hc, turn_envMove hc hp h⟩)

end Sys2Proof.Machine
end

section
/-! SUPPORT. The invariant through one step: the turns of the environment and power-on keep it, and a Controller's step
re-establishes it from what holds in the middle of that step (R27, R28, R34, R38, R40, R102, R154, R161, R236). -/

namespace Sys2Proof.Safety

open Sys2Proof.Machine

/-! ### The history and the board under the invariant's predicates -/

@[simp] theorem lastEn_append_en (l : List OutEvent) (v : Enables) : lastEn (l ++ [.en v]) = v := by
  simp [lastEn]

@[simp] theorem lastEn_append_hb (l : List OutEvent) (b : Bool) : lastEn (l ++ [.hb b]) = lastEn l := by
  simp [lastEn]

@[simp] theorem lastHb_append_hb (l : List OutEvent) (b : Bool) : lastHb (l ++ [.hb b]) = b := by
  simp [lastHb]

@[simp] theorem lastHb_append_en (l : List OutEvent) (v : Enables) : lastHb (l ++ [.en v]) = lastHb l := by
  simp [lastHb]

/-- What a register write must be sending depends on the board and the Buffer alone. -/
theorem txnMatches_congr {s t : State} (hc : t.cfg = s.cfg) (hb : t.buf = s.buf) (c : Ctl) :
    txnMatches t c = txnMatches s c := by
  unfold txnMatches
  split
  · simp only [hc]
  · simp only [scanWrite_congr hc hb]
  all_goals rfl

/-- A wait point waits for some phase (R102). -/
theorem ne_none_of_waitsFor {w : Wait} {p : Pend} (h : waitsFor w p = true) : p ≠ .none := by
  rintro rfl
  cases w with
  | respondZero | respondByte => exact nomatch h
  | txn t who => cases hp : t.ph <;> simp [waitsFor, hp] at h

/-- The next transaction of a column keeps the sweep's position, baseline and period (R155). -/
theorem next_sameColumn {x y : Scan} (h : x.next = .sameColumn y) :
    y.i = x.i ∧ y.base = x.base ∧ y.period = x.period := by
  obtain ⟨z, hz, -, hi, hb, hp, -⟩ | ⟨z, hz, -⟩ | ⟨hz, -⟩ := next_cases x <;> rw [h] at hz <;> cases hz
  exact ⟨hi, hb, hp⟩

/-- The first transaction of the next column keeps the sweep's baseline and period (R155). -/
theorem next_nextColumn {x y : Scan} (h : x.next = .nextColumn y) : y.base = x.base ∧ y.period = x.period := by
  obtain ⟨z, hz, -⟩ | ⟨z, hz, -, -, hb, hp, -⟩ | ⟨hz, -⟩ := next_cases x <;> rw [h] at hz <;> cases hz
  exact ⟨hb, hp⟩

/-! ### The environment's turns and power-on -/

section
variable {s : State} (h : LmcInv s)
include h

/-- Away from a wait point nothing is pending (R27). -/
theorem LmcInv.noPend (hc : ∀ w, s.ctl ≠ .waitBus w) : s.bdPend = .none := by
  by_contra hp
  obtain ⟨w, hw, -⟩ := h.pendWait hp
  exact hc w hw

/-- An LMC that is not busy is idle (R23). -/
theorem LmcInv.idle_of_not_busy (hb : s.busy = false) : s.ctl = .idle := by
  by_contra hc
  simp [h.busyCtl.mpr hc] at hb

/-- The invariant does not speak of CMD, ARG, the Host, the schedule and the draws. -/
theorem LmcInv.outside (w a : Word) (p : List HostOp) (d : Option Word) (ts : List Turn) (n : Nat) :
    LmcInv { s with cmd := w, arg := a, hostProg := p, hostData := d, script := ts, draws := n } :=
  { h with txnOk := (txnMatches_congr rfl rfl s.ctl).trans h.txnOk }

/-- A fault changes nothing the invariant speaks of (R236). -/
theorem LmcInv.faulted (k : Fault) : LmcInv { s with fault := some k } :=
  { h with sweepOff := nofun, txnOk := (txnMatches_congr rfl rfl s.ctl).trans h.txnOk }

/-- The start of a command while idle keeps the invariant (R24). -/
theorem LmcInv.started (hf : s.fault = none) (hb : s.busy = false) :
    LmcInv { s with busy := true, ctl := .start } :=
  have hidle := h.idle_of_not_busy hb
  { h with
    busyCtl := ⟨nofun, fun _ => rfl⟩
    pendWait := fun hp => absurd (h.noPend fun w => by simp [hidle]) hp
    statKnown := nofun
    rxdKnown := nofun
    waitEnabled := nofun
    sweepOn := nofun
    sweepOff := fun _ _ => h.sweepOff hf (by rw [hidle]; rfl)
    txnOk := rfl }

/-- The BusPeer's completion leaves the status and, after a read, the byte known (R102). -/
theorem LmcInv.completed (raw rx : Byte) (hp : s.bdPend ≠ .none) : LmcInv (s.completePhase raw rx) where
  enLegal := by simpa using h.enLegal
  busyCtl := by simpa using h.busyCtl
  pendWait := by simp
  statKnown := by simp
  rxdKnown := by
    intro hc _
    obtain ⟨w, hw, hwf⟩ := h.pendWait hp
    obtain rfl : w = .respondByte := by simpa [hw] using hc
    cases hb : s.bdPend with
    | read ack => simp [State.completePhase_rxd_read s raw rx ack hb]
    | none | start | write => simp [hb, waitsFor] at hwf
  statMasked := by
    intro v hv
    obtain rfl : raw &&& s.cfg.statusMask = v := by simpa using hv
    simpa using mask_mask raw s.cfg.statusMask
  waitEnabled := by simpa using h.waitEnabled
  cntBound := by simpa using h.cntBound
  sweepOn := by simpa using h.sweepOn
  sweepOff := by simpa using h.sweepOff
  txnOk := by simpa using (txnMatches_congr (by simp) (by simp) s.ctl).trans h.txnOk
  outTail := by simpa using h.outTail

/-- A tick keeps CNT within its width (R34, R190). -/
theorem LmcInv.ticked : LmcInv s.countTick :=
  { h with
    cntBound := Nat.mod_lt _ (by positivity)
    txnOk := (txnMatches_congr rfl rfl s.ctl).trans h.txnOk }

/-- Every move of the environment keeps the invariant. -/
theorem LmcInv.envMove {s' : State} (hm : EnvMove s s') : LmcInv s' := by
  cases hm with
  | outside p d n => exact h.outside _ _ p d _ n
  | hostFault p d n k => exact (h.outside s.cmd s.arg p d s.script n).faulted k
  | start p d n w hf hb => exact (h.started hf hb).outside w _ p d _ n
  | arg p d n w => exact h.outside _ w p d _ n
  | complete raw rx _ hp => exact h.completed raw rx hp
  | tick => exact h.ticked

/-- Taking a turn keeps the invariant (R71). -/
theorem LmcInv.nextTurn : LmcInv s.nextTurn.2 := by
  rw [nextTurn_frame]
  exact h.outside _ _ _ _ _ _

end

/-- Power-on establishes the invariant, in any state (R260, R261). -/
theorem powerOn_inv (s : State) : LmcInv s.powerOn where
  enLegal := enLegal_zero
  busyCtl := ⟨nofun, fun h => absurd rfl h⟩
  pendWait := fun h => absurd rfl h
  statKnown := nofun
  rxdKnown := nofun
  statMasked := nofun
  waitEnabled := nofun
  cntBound := by simp
  sweepOn := nofun
  sweepOff := fun _ _ => rfl
  txnOk := rfl
  outTail := ⟨rfl, rfl⟩

/-! ### In the middle of a Controller's step -/

/-- What holds in the middle of a Controller's step, after the wait or the start it goes on from and before its end. -/
structure MidStep (s : State) : Prop where
  enLegal : enLegal s.en = true
  busy : s.busy = true
  noPend : s.bdPend = .none
  statMasked : ∀ v, s.stat = some v → v &&& s.cfg.statusMask = v
  cntBound : s.cnt < 2 ^ s.cfg.tbWidth
  outTail : lastEn s.outTrace = s.en ∧ lastHb s.outTrace = s.hb
  /-- Only at the start of a command may the Bus Driver be off (R104). -/
  enabled : s.bdEn = true ∨ s.ctl = .start

/-- What a Controller's turn must leave: the invariant and, without a fault, both directions of R27. -/
def Settled (s : State) : Prop :=
  LmcInv s ∧ (s.fault = none → (s.bdPend ≠ .none ↔ ∃ w, s.ctl = .waitBus w))

/-- The Time Base runs for the sweep `se` (R151). -/
structure SweepRuns (s : State) (se : Scan) : Prop where
  tbCfg : s.tbCfg = true
  tbRun : s.tbRun = true
  base : se.base < 2 ^ s.cfg.tbWidth
  period : se.period < 2 ^ s.cfg.tbWidth

/-- It then runs for every place of the sweep. -/
theorem SweepRuns.congr {s : State} {se se' : Scan} (h : SweepRuns s se) (hb : se'.base = se.base)
    (hp : se'.period = se.period) : SweepRuns s se' :=
  ⟨h.tbCfg, h.tbRun, hb ▸ h.base, hp ▸ h.period⟩

/-- The column of the sweep's position is lit (R154). -/
def ColumnLit (s : State) (se : Scan) : Prop := s.en = oneHot s.cfg.colOrder[se.i]

/-- The wait point `w` fits the state: its sweep is on, or every column is off, and it sends what its command asks. -/
structure WaitFits (s : State) (w : Wait) : Prop where
  on : ∀ se, scanOf (.waitBus w) = some se → SweepRuns s se ∧ ColumnLit s se
  off : scanOf (.waitBus w) = none → s.en = 0
  sends : txnMatches s (.waitBus w) = true

section
variable {s : State}

/-- The next phase of the same register write. -/
theorem WaitFits.phase {t : Txn} {who : Caller} (h : WaitFits s (.txn t who)) (p : Phase) :
    WaitFits s (.txn { t with ph := p } who) := by
  cases who <;> exact ⟨h.on, h.off, h.sends⟩

/-- A STOP leaves what a wait point rests on (R107). -/
theorem WaitFits.issueStop {w : Wait} (h : WaitFits s w) : WaitFits s.issueStop w where
  on se hse := ⟨{ (h.on se hse).1 with }, (h.on se hse).2⟩
  off := h.off
  sends := (txnMatches_congr rfl rfl _).trans h.sends

theorem LmcInv.waitFits (h : LmcInv s) {w : Wait} (hf : s.fault = none) (hc : s.ctl = .waitBus w) : WaitFits s w where
  on se hse := by
    obtain ⟨hcfg, hrun, hlit, hbase, hper⟩ := h.sweepOn se (hc ▸ hse)
    exact ⟨⟨hcfg, hrun, hbase, hper⟩, hlit⟩
  off hse := h.sweepOff hf (hc ▸ hse)
  sends := hc ▸ h.txnOk

/-- The start of a command is the middle of the Controller's step (R24). -/
theorem LmcInv.midStep_start (h : LmcInv s) (hc : s.ctl = .start) : MidStep s where
  enLegal := h.enLegal
  busy := h.busyCtl.mpr (by simp [hc])
  noPend := h.noPend (by simp [hc])
  statMasked := h.statMasked
  cntBound := h.cntBound
  outTail := h.outTail
  enabled := .inr hc

/-- A wait point with nothing pending is the middle of the Controller's step (R102). -/
theorem LmcInv.midStep_wait (h : LmcInv s) {w : Wait} (hc : s.ctl = .waitBus w) (hp : s.bdPend = .none) :
    MidStep s where
  enLegal := h.enLegal
  busy := h.busyCtl.mpr (by simp [hc])
  noPend := hp
  statMasked := h.statMasked
  cntBound := h.cntBound
  outTail := h.outTail
  enabled := .inl (h.waitEnabled w hc)

/-! ### How a Controller's step ends -/

section
variable (h : MidStep s)
include h

/-- A response ends the command, with every column off (R24, R160). -/
theorem MidStep.respond (hen : s.en = 0) (c : Resp) (r : Word) : Settled (s.respond c r) where
  left :=
    { enLegal := h.enLegal
      busyCtl := ⟨nofun, fun hc => absurd rfl hc⟩
      pendWait := fun hp => absurd h.noPend hp
      statKnown := nofun
      rxdKnown := nofun
      statMasked := h.statMasked
      waitEnabled := nofun
      cntBound := h.cntBound
      sweepOn := nofun
      sweepOff := fun _ _ => hen
      txnOk := rfl
      outTail := h.outTail }
  right _ := by simp [h.noPend]

/-- A fault leaves the command at its start (R236). -/
theorem MidStep.raise (hc : s.ctl = .start) (k : Fault) : Settled (s.raise k) := by
  have hf : (s.raise k).fault ≠ none := by
    unfold State.raise
    split
    · exact nofun
    · next hk => simp [hk]
  refine ⟨?_, fun h0 => absurd h0 hf⟩
  constructor
  case sweepOff => exact fun h0 => absurd h0 hf
  case statMasked => simpa using h.statMasked
  all_goals simp [hc, h.enLegal, h.busy, h.noPend, h.cntBound, h.outTail, scanOf, txnMatches]

/-- A phase issued at a wait point that fits (R102, R104). -/
theorem MidStep.issue {w : Wait} {p : Pend} (hb : s.bdEn = true) (hw : waitsFor w p = true) (hfit : WaitFits s w)
    (e : BusEvent) : Settled (s.issue e p w) where
  left :=
    { enLegal := h.enLegal
      busyCtl := ⟨nofun, fun _ => h.busy⟩
      pendWait := fun _ => ⟨w, rfl, hw⟩
      statKnown := fun _ _ h0 => absurd h0 (ne_none_of_waitsFor hw)
      rxdKnown := fun _ h0 => absurd h0 (ne_none_of_waitsFor hw)
      statMasked := h.statMasked
      waitEnabled := fun _ _ => hb
      cntBound := h.cntBound
      sweepOn := fun se hse =>
        have ⟨hruns, hlit⟩ := hfit.on se hse
        ⟨hruns.tbCfg, hruns.tbRun, hlit, hruns.base, hruns.period⟩
      sweepOff := fun _ hse => hfit.off hse
      txnOk := (txnMatches_congr rfl rfl _).trans hfit.sends
      outTail := h.outTail }
  right _ := ⟨fun _ => ⟨w, rfl⟩, fun _ => ne_none_of_waitsFor hw⟩

/-- A bus procedure that waits issues its phase, or faults at the start of a command (R104, R237). -/
theorem MidStep.busPhase {w : Wait} {p : Pend} (hw : waitsFor w p = true) (hfit : WaitFits s w) (e : BusEvent) :
    Settled (s.busPhase e p w) := by
  unfold State.busPhase
  split
  · next hb => exact h.issue hb hw hfit e
  · next hb => exact h.raise (h.enabled.resolve_left hb) _

theorem MidStep.busStart {w : Wait} (hw : waitsFor w .start = true) (hfit : WaitFits s w) : Settled (s.busStart w) :=
  h.busPhase hw hfit _

theorem MidStep.busWrite {w : Wait} {b : Byte} (hw : waitsFor w (.write b) = true) (hfit : WaitFits s w) :
    Settled (s.busWrite b w) :=
  h.busPhase hw hfit _

theorem MidStep.busRead {w : Wait} {ack : Bool} (hw : waitsFor w (.read ack) = true) (hfit : WaitFits s w) :
    Settled (s.busRead ack w) :=
  h.busPhase hw hfit _

/-- A STOP is followed by what comes next in the same step, or faults at the start of a command (R104, R107). -/
theorem MidStep.busStop {next : State → State} (hn : Settled (next s.issueStop)) : Settled (s.busStop next) := by
  unfold State.busStop
  split
  · exact hn
  · next hb => exact h.raise (h.enabled.resolve_left hb) _

theorem MidStep.issueStop : MidStep s.issueStop := { h with statMasked := nofun }

theorem MidStep.drew : MidStep s.drew := { h with }

theorem MidStep.readStat : MidStep s.readStat.2 := by
  unfold State.readStat
  split
  · exact h
  · exact h.drew

theorem MidStep.setEn {v : Enables} (hv : Machine.enLegal v = true) : MidStep (s.setEn v) :=
  { h with enLegal := hv, outTail := by simp [h.outTail] }

theorem MidStep.toggleHb : MidStep s.toggleHb := { h with outTail := by simp [h.outTail] }

/-- The own update of a command off the bus (R105, R192 to R195, R210, R211, R216). -/
theorem MidStep.ownUpdate (i : Instr) : MidStep (ownUpdate i s) where
  enLegal := by simpa using h.enLegal
  busy := by simpa using h.busy
  noPend := by simpa using h.noPend
  statMasked := by simpa using h.statMasked
  cntBound := by
    obtain hcnt | hcnt := ownUpdate_cnt i s <;> rw [hcnt, ownUpdate_cfg]
    · exact h.cntBound
    · exact Nat.two_pow_pos _
  outTail := by simpa using h.outTail
  enabled := by simpa using h.enabled.imp_left (ownUpdate_bdEn i)

/-! ### Register writes and the commands that ask for them -/

theorem MidStep.writeRegister {a : ChipAddr} {g v : Byte} {who : Caller}
    (hfit : WaitFits s (.txn { addr := a, reg := g, val := v, ph := .start } who)) :
    Settled (s.writeRegister a g v who) :=
  h.busStart rfl hfit

/-- CHIP_INIT's next write, or its answer (R180). -/
theorem MidStep.initWrite (hen : s.en = 0) (a : ChipAddr) (idx : Nat) : Settled (s.initWrite a idx) := by
  unfold State.initWrite
  split
  · next g v hg => exact h.writeRegister ⟨nofun, fun _ => hen, by simp [txnMatches, hg]⟩
  · exact h.respond hen _ _

/-- The transaction of a sweep's half cell, whose column is lit (R156, R157). -/
theorem MidStep.scanTxn {se : Scan} (hr : SweepRuns s se) (hl : ColumnLit s se) : Settled (s.scanTxn se) := by
  refine h.writeRegister ⟨?_, nofun, by simp [txnMatches]⟩
  rintro _ ⟨⟩
  exact ⟨hr, hl⟩

/-- A column is lit before its first transaction (R154). -/
theorem MidStep.scanColumn {se : Scan} (hr : SweepRuns s se) : Settled (s.scanColumn se) :=
  (h.setEn (enLegal_oneHot _)).scanTxn ⟨hr.tbCfg, hr.tbRun, hr.base, hr.period⟩ rfl

theorem MidStep.scanPass {se : Scan} (hr : SweepRuns s se) : Settled (s.scanPass se) :=
  h.toggleHb.scanColumn ⟨hr.tbCfg, hr.tbRun, hr.base, hr.period⟩

/-- The loop test: another pass, or the exit with every column off (R159, R160). -/
theorem MidStep.scanTest {se : Scan} (hr : SweepRuns s se) : Settled (s.scanTest se) := by
  unfold State.scanTest
  split
  · exact h.scanPass hr
  · have hstop : MidStep { s with tbRun := false, cnt := 0 } := { h with cntBound := Nat.two_pow_pos _ }
    exact (hstop.setEn enLegal_zero).respond rfl _ _

/-- What SWEEP does after a transaction, at every place of the pass (R155, R158, R159). -/
theorem MidStep.endScanWrite {se : Scan} (hr : SweepRuns s se) (hl : ColumnLit s se) (e : TxnEnd) :
    Settled (s.endScanWrite se e) := by
  obtain ⟨x, hx, -, hcases⟩ := endScanWrite_cases s se e
  have hrx : SweepRuns s x := hr.congr (by rw [hx]) (by rw [hx])
  have hlx : ColumnLit s x := by rw [hx]; exact hl
  obtain ⟨y, hy, hend⟩ | ⟨y, hy, hend⟩ | ⟨-, hend⟩ := hcases <;> rw [hend]
  · obtain ⟨hi, hb, hp⟩ := next_sameColumn hy
    exact h.scanTxn (hrx.congr hb hp) (by simpa only [ColumnLit, hi] using hlx)
  · obtain ⟨hb, hp⟩ := next_nextColumn hy
    exact h.scanColumn (hrx.congr hb hp)
  · exact h.scanTest hrx

/-- What each command does with the outcome of its register write (R134, R158, R181). -/
theorem MidStep.endTxn {t : Txn} {who : Caller} (hfit : WaitFits s (.txn t who)) (e : TxnEnd) :
    Settled (s.endTxn who e) := by
  cases who with
  | writeReg =>
    simp only [State.endTxn, State.endWriteReg]
    split <;> exact h.respond (hfit.off rfl) _ _
  | chipInit a idx =>
    simp only [State.endTxn, State.endInitWrite]
    split <;> exact h.initWrite (hfit.off rfl) _ _
  | sweep se =>
    obtain ⟨hr, hl⟩ := hfit.on se rfl
    exact h.endScanWrite hr hl e

/-- A completed phase of a register write with its status known (R130, R133). -/
theorem MidStep.checkPhase {t : Txn} {who : Caller} (hst : s.stat.isSome = true) (hfit : WaitFits s (.txn t who)) :
    Settled (s.checkPhase t who fun e u => u.endTxn who e) := by
  obtain ⟨v, hv⟩ := Option.isSome_iff_exists.mp hst
  have hread : s.readStat.2 = s := by rw [readStat_of_some hv]
  obtain ⟨-, hc⟩ | ⟨-, ⟨-, hc⟩ | ⟨-, hc⟩ | ⟨-, hc⟩ | ⟨-, hc⟩⟩ :=
    checkPhase_cases s t who fun e u => u.endTxn who e <;> rw [hc, hread]
  · exact h.endTxn hfit _
  · exact h.busWrite (by simp [waitsFor]) (hfit.phase _)
  · exact h.busWrite (by simp [waitsFor]) (hfit.phase _)
  · exact h.busWrite (by simp [waitsFor]) (hfit.phase _)
  · exact h.busStop (h.issueStop.endTxn hfit.issueStop _)

/-- SWEEP's first step (R150, R151, R239). -/
theorem MidStep.scanStart (hc : s.ctl = .start) (hen : s.en = 0) : Settled s.scanStart := by
  unfold State.scanStart
  split
  · split
    · next hcfg =>
      have hrun : MidStep { s with tbRun := true } := { h with }
      exact hrun.scanPass ⟨hcfg, rfl, h.cntBound, Nat.mod_lt _ (Nat.two_pow_pos _)⟩
    · exact h.raise hc _
  · exact h.respond hen _ _

/-! ### The Controller's step -/

/-- The first step of every command (R21, R24). -/
theorem MidStep.exec {t : State} {i : Instr} (hc : s.ctl = .start) (hen : s.en = 0) (hx : exec i s = .next t) :
    Settled t := by
  cases hi : offBus i with
  | true =>
    obtain ⟨c, r, rfl⟩ | ⟨r, rfl⟩ | ⟨-, -, rfl⟩ := exec_offBus hi hx
    · exact (h.ownUpdate i).respond (by simpa using hen) _ _
    · exact h.respond hen _ _
    · exact h.raise hc _
  | false =>
    have hzero : WaitFits s .respondZero := ⟨nofun, fun _ => hen, rfl⟩
    have hbyte : WaitFits s .respondByte := ⟨nofun, fun _ => hen, rfl⟩
    cases i with
    | bdStart => cases hx; exact h.busStart rfl hzero
    | bdStop => cases hx; exact h.busStop (h.issueStop.respond hen _ _)
    | bdWrite b => cases hx; exact h.busWrite rfl hzero
    | bdReadAck | bdReadNack => cases hx; exact h.busRead rfl hbyte
    | bdStatus =>
      cases hx
      exact h.readStat.respond (((prep_readStat false s).quiet rfl).1.trans hen) _ _
    | rtWriteReg a g v => cases hx; exact h.writeRegister ⟨nofun, fun _ => hen, rfl⟩
    | chipInit a => cases hx; exact h.initWrite hen a 0
    | sweep => cases hx; exact h.scanStart hc hen
    | _ => exact nomatch hi

end

/-- From every completed wait (R102). -/
theorem LmcInv.resume (h : LmcInv s) {w : Wait} (hf : s.fault = none) (hc : s.ctl = .waitBus w)
    (hp : s.bdPend = .none) : Settled (s.resume w) := by
  have hmid := h.midStep_wait hc hp
  have hfit := h.waitFits hf hc
  cases w with
  | respondZero => exact hmid.respond (hfit.off rfl) _ _
  | respondByte =>
    obtain ⟨b, hb⟩ := Option.isSome_iff_exists.mp (h.rxdKnown hc hp)
    simp only [State.resume, readRxd_of_some hb]
    exact hmid.respond (hfit.off rfl) _ _
  | txn t who => exact hmid.checkPhase (h.statKnown _ hc hp) hfit

/-- Every turn of the Controller. -/
theorem LmcInv.controllerStep (h : LmcInv s) {s' : State} (hs : s.controllerStep = .next s') : Settled s' := by
  cases hf : s.fault with
  | some k =>
    rw [controllerStep_faulted (by simp [hf])] at hs
    cases hs
    exact ⟨h, by simp [hf]⟩
  | none =>
    cases hc : s.ctl with
    | idle =>
      rw [controllerStep_idle hc] at hs
      cases hs
      exact ⟨h, by simp [hc, h.noPend]⟩
    | start =>
      have hmid := h.midStep_start hc
      have hen : s.en = 0 := h.sweepOff hf (by rw [hc]; rfl)
      cases hd : decode s.cmd with
      | ok i =>
        rw [controllerStep_start hf hc hd] at hs
        exact hmid.exec hc hen hs
      | error e =>
        rw [controllerStep_illegal hf hc hd] at hs
        cases hs
        exact hmid.respond hen _ _
    | waitBus w =>
      by_cases hp : s.bdPend = .none
      · rw [controllerStep_resume hf hc hp] at hs
        cases hs
        exact h.resume hf hc hp
      · rw [controllerStep_pending hc hp] at hs
        cases hs
        exact ⟨h, by simp [hc, hp]⟩

end

/-- Settles O58: the environment's turns and power-on keep the invariant, and the Controller's turn goes through
`MidStep` to each way its step can end. -/
theorem stepKeepsInvariant : Obligations.StepKeepsInvariant := by
  intro s s' h hs
  obtain ⟨ht, rfl⟩ | ⟨-, hs⟩ | ⟨-, hc, hs⟩ := step_cases hs
  · exact ⟨powerOn_inv _, fun hc => by simp [ht] at hc⟩
  · obtain ⟨hinv, hpend⟩ := h.nextTurn.controllerStep hs
    exact ⟨hinv, fun _ => hpend⟩
  · exact ⟨h.nextTurn.envMove hs, fun h0 => absurd h0 hc⟩

end Sys2Proof.Safety
end

section
/-! SUPPORT. The statements of 10_state.md about every step: each reads off `step_cases` what a move of the environment, a
Controller's turn and power-on leave alone. -/

namespace Sys2Proof.Machine

/-! ### Going on from a known status draws no free value (R12) -/

@[simp] theorem busPhase_draws (s : State) (e : BusEvent) (p : Pend) (w : Wait) :
    (s.busPhase e p w).draws = s.draws := by rw [busPhase_frame]

@[simp] theorem busWrite_draws (s : State) (b : Byte) (w : Wait) : (s.busWrite b w).draws = s.draws :=
  busPhase_draws s _ _ _

@[simp] theorem writeRegister_draws (s : State) (a : ChipAddr) (g v : Byte) (who : Caller) :
    (s.writeRegister a g v who).draws = s.draws :=
  busPhase_draws s _ _ _

@[simp] theorem initWrite_draws (s : State) (a : ChipAddr) (idx : Nat) : (s.initWrite a idx).draws = s.draws := by
  unfold State.initWrite
  split <;> simp

@[simp] theorem scanTxn_draws (s : State) (se : Scan) : (s.scanTxn se).draws = s.draws := by rw [scanTxn_frame]

@[simp] theorem scanColumn_draws (s : State) (se : Scan) : (s.scanColumn se).draws = s.draws :=
  scanTxn_draws _ se

@[simp] theorem scanPass_draws (s : State) (se : Scan) : (s.scanPass se).draws = s.draws :=
  scanColumn_draws _ _

@[simp] theorem scanTest_draws (s : State) (se : Scan) : (s.scanTest se).draws = s.draws := by
  unfold State.scanTest
  split <;> simp

@[simp] theorem endScanWrite_draws (s : State) (se : Scan) (e : TxnEnd) : (s.endScanWrite se e).draws = s.draws := by
  obtain ⟨x, -, -, ⟨y, -, h⟩ | ⟨y, -, h⟩ | ⟨-, h⟩⟩ := endScanWrite_cases s se e <;> simp [h]

@[simp] theorem endTxn_draws (s : State) (who : Caller) (e : TxnEnd) : (s.endTxn who e).draws = s.draws := by
  cases who with
  | writeReg =>
    simp only [State.endTxn, State.endWriteReg]
    split <;> rfl
  | chipInit a idx =>
    simp only [State.endTxn, State.endInitWrite]
    split <;> simp
  | sweep se => exact endScanWrite_draws s se e

/-- A STOP and what follows it draw what follows it draws. -/
theorem busStop_draws {s : State} {next : State → State} (hn : (next s.issueStop).draws = s.draws) :
    (s.busStop next).draws = s.draws := by
  unfold State.busStop
  split
  · exact hn
  · simp

/-- Going on from a wait point draws nothing while what it reads is known (R28, R29). -/
theorem resume_draws {s : State} {w : Wait} (hstat : (∃ t who, w = .txn t who) → s.stat.isSome = true)
    (hrxd : w = .respondByte → s.rxd.isSome = true) : (s.resume w).draws = s.draws := by
  cases w with
  | respondZero => rfl
  | respondByte =>
    obtain ⟨b, hb⟩ := Option.isSome_iff_exists.mp (hrxd rfl)
    simp [State.resume, readRxd_of_some hb]
  | txn t who =>
    obtain ⟨v, hv⟩ := Option.isSome_iff_exists.mp (hstat ⟨t, who, rfl⟩)
    have hread : s.readStat.2 = s := by rw [readStat_of_some hv]
    obtain ⟨-, hc⟩ | ⟨-, ⟨-, hc⟩ | ⟨-, hc⟩ | ⟨-, hc⟩ | ⟨-, hc⟩⟩ :=
      checkPhase_cases s t who fun e u => u.endTxn who e <;> rw [State.resume, hc, hread]
    · exact endTxn_draws s who _
    · exact busWrite_draws s _ _
    · exact busWrite_draws s _ _
    · exact busWrite_draws s _ _
    · exact busStop_draws (endTxn_draws _ who _)

end Sys2Proof.Machine

namespace Sys2Proof.Safety

open Sys2Proof.Machine

/-- Settles O16: a faulted LMC's Controller holds, and no move of the environment replaces a fault. -/
theorem faultIsSticky : Obligations.FaultIsSticky := by
  refine ⟨rfl, fun s s' k hk hp hs => ?_⟩
  have hk' : s.nextTurn.2.fault = some k := by simpa using hk
  obtain ⟨h, -⟩ | ⟨-, h⟩ | ⟨-, -, h⟩ := step_cases hs
  · exact absurd h hp
  · rw [(controllerStep_ctlMove h).eq_of_fault hk', hk']
  · exact h.fault_of_fault hk'

/-- Settles O43: no move of the environment touches the outputs, and the Controller does so only in a sweep. -/
theorem outputsOnlyFromSweep : Obligations.OutputsOnlyFromSweep := by
  intro s s' hs hne
  obtain ⟨ht, -⟩ | ⟨ht, h⟩ | ⟨-, -, h⟩ := step_cases hs
  · exact .inl ht
  · obtain ⟨hf, hsweep⟩ | ⟨hen, hhb, hout⟩ := (controllerStep_ctlMove h).outputs
    · exact .inr ⟨ht, by simpa using hf, by simpa [AtSweep] using hsweep⟩
    · simp [hen, hhb, hout] at hne
  · rw [h.frame] at hne
    simp at hne

/-- Settles O51: no move of the environment touches the Buffer, and the Controller does so only by the own update of a
command that writes it. -/
theorem bufferWrittenOnlyByItsCommands : Obligations.BufferWrittenOnlyByItsCommands := by
  intro s s' hs hne
  obtain ⟨ht, -⟩ | ⟨ht, h⟩ | ⟨-, -, h⟩ := step_cases hs
  · exact .inl ht
  · obtain hbuf | hcmd := (controllerStep_ctlMove h).buffer
    · simp [hbuf] at hne
    · exact .inr ⟨ht, by simpa using hcmd⟩
  · rw [h.frame] at hne
    simp at hne

/-- Settles O53: the step from a wait point prepares and ends as `resume_ends` says, and draws nothing. -/
theorem resumeFrame : Obligations.ResumeFrame := by
  intro s w hstat hrxd
  have hends := resume_ends s w
  refine ⟨?_, fun hscan => ?_, fun hne => ?_⟩
  · have hframe := hends.frame
    rwa [resume_draws hstat hrxd] at hframe
  · rw [scans_of_scanOf_none hscan] at hends
    obtain ⟨hen, hhb, hout, hrun, hcnt⟩ := hends.quiet
    exact ⟨hout, hen, hhb, hrun, hcnt⟩
  · obtain ⟨hbusy, hctl, -⟩ | ⟨hresult, hresp, hbusy⟩ := hends.answer
    · exact ⟨hbusy, hctl⟩
    · simp [hresult, hresp, hbusy] at hne

/-- Settles O54: the environment leaves both histories and the board, and the Controller extends the histories. -/
theorem historiesGrowAndBoardStays : Obligations.HistoriesGrowAndBoardStays := by
  intro s s' hs
  obtain ⟨ht, rfl⟩ | ⟨-, h⟩ | ⟨-, -, h⟩ := step_cases hs
  · exact ⟨by simp, fun hp => absurd ht hp⟩
  · have hm := controllerStep_ctlMove h
    exact ⟨by simpa using hm.cfg, fun _ => by simpa using hm.histories⟩
  · rw [h.frame]
    exact ⟨by simp, fun _ => ⟨⟨[], by simp⟩, [], by simp⟩⟩

/-- Settles O55: the environment leaves the answer and never clears BUSY, and the Controller writes the answer only as it
ends the command. -/
theorem answerOnlyAtTheEnd : Obligations.AnswerOnlyAtTheEnd := by
  intro s s' hs hne
  obtain ⟨ht, rfl⟩ | ⟨ht, h⟩ | ⟨-, -, h⟩ := step_cases hs
  · exact ⟨.inr ht, rfl, rfl, rfl⟩
  · obtain hend | ⟨hresult, hresp, hbusy⟩ := (controllerStep_ctlMove h).answer
    · exact ⟨.inl ht, hend⟩
    · simp [hresult, hresp, hbusy] at hne
  · have hbusy : s.busy = true → s'.busy = true := by simpa using h.busy_of_busy
    have hresult : s'.result = s.result := by rw [h.frame]; simp
    have hresp : s'.resp = s.resp := by rw [h.frame]; simp
    obtain hr | hr | ⟨hb, hb'⟩ := hne
    · exact absurd hresult hr
    · exact absurd hresp hr
    · simp [hbusy hb] at hb'

end Sys2Proof.Safety

namespace Sys2Proof

/-- The four bytes of a word, put together again, are the word (R63). -/
theorem wordOfBytes_extract (w : Word) :
    wordOfBytes (w.extractLsb' 0 8) (w.extractLsb' 8 8) (w.extractLsb' 16 8) (w.extractLsb' 24 8) = w := by
  apply BitVec.eq_of_getLsbD_eq
  intro k hk
  simp only [wordOfBytes, BitVec.getLsbD_append, BitVec.getLsbD_extractLsb']
  interval_cases k <;> simp

/-- A table word that decodes is a command word that decodes to the same command (R63, R88). -/
theorem decode_of_decodeTableWord {nbits w : Nat} {i : Instr} (h : decodeTableWord nbits w = some i) :
    decode (Machine.tableWord nbits w) = .ok i := by
  unfold decodeTableWord at h
  split at h
  · next j rest hj =>
    cases h
    simp only [bytesOfWord, decodeBytes, wordOfBytes_extract] at hj
    split at hj
    · next hd => cases hj; exact hd
    · cases hj
  · cases h

end Sys2Proof

namespace Sys2Proof.Safety

open Sys2Proof.Machine

/-- Settles O7: with the Controller's turn placed at the start of a command, the step is `exec` of what CMD decodes to. -/
theorem stepRunsDecodedCommand : Obligations.StepRunsDecodedCommand := by
  refine ⟨fun s i ts hf hc hs hd => ?_, fun s t ts hs => step_placed hs, fun s nbits w i hd => ?_⟩
  · rw [step_placed hs]
    exact controllerStep_start (s := { s with script := ts }) hf hc hd
  · have hstep : step (s.withFetchWord nbits w) =
        State.controllerStep { s with cmd := tableWord nbits w, busy := true, ctl := .start, fault := none } := rfl
    exact hstep.trans (controllerStep_start rfl rfl (decode_of_decodeTableWord hd))

/-- An idle, unfaulted LMC performs a write of CMD or ARG (R24, R64). -/
theorem portWrite_idle {s : State} (hf : s.fault = none) (hb : s.busy = false) (perform : State → State) :
    s.portWrite perform = perform s := by
  simp [State.portWrite, hf, hb]

/-- Settles O9: an idle, unfaulted LMC performs the write its offset names. -/
theorem hostWritesTakeEffect : Obligations.HostWritesTakeEffect := by
  intro s w ts hf hb
  have hport := portWrite_idle (s := { s with hostData := none, script := ts }) hf hb
  constructor <;> intro hs <;> rw [step_placed hs]
  · exact congrArg Host.Outcome.next (hport fun t => t.startCommand w)
  · exact congrArg Host.Outcome.next (hport fun t => t.storeArg w)

/-- Settles O13: the fields of CSR are the parts it is put together from. -/
theorem csrFields : Obligations.CsrFields := by
  refine ⟨fun s => ?_, rfl, rfl, rfl, rfl⟩
  have hfields : ∀ (code : BitVec 2) (b : Bool),
      (0#29 ++ code ++ BitVec.ofBool b).getLsbD 0 = b ∧
        (0#29 ++ code ++ BitVec.ofBool b).extractLsb' 1 2 = code ∧
        (0#29 ++ code ++ BitVec.ofBool b).extractLsb' 3 29 = 0 := by decide
  exact hfields s.resp.code s.busy

/-- A legal column vector is all off or one column (R38). -/
theorem enLegal_iff (v : Enables) : Machine.enLegal v = true ↔ v = 0 ∨ ∃ c, v = oneHot c := by
  simp [Machine.enLegal]

/-- Settles O42: the bit of column `c'` is set in `oneHot c` exactly when `c' = c`. -/
theorem atMostOneColumnPowered : Obligations.AtMostOneColumnPowered := by
  refine ⟨fun c c' => by rw [oneHot_getLsbD, decide_eq_true_eq], enLegal_iff, fun s hen c c' => ⟨fun hc hc' => ?_, rfl⟩⟩
  obtain h0 | ⟨d, hd⟩ := (enLegal_iff s.en).mp hen
  · simp [h0] at hc
  · rw [hd, oneHot_getLsbD, decide_eq_true_eq] at hc hc'
    exact hc.trans hc'.symm

end Sys2Proof.Safety
end

section
/-! SUPPORT. The command port and the bytes of a command word (20_memory.md): what decoding the bytes of a word gives, and
what a Host read of each readable register gives. -/

namespace Sys2Proof

/-- Decoding the bytes of a word decodes the word and hands on the bytes after it (R63, R80). -/
theorem decodeBytes_bytesOfWord (w : Word) (rest : List Byte) :
    decodeBytes (bytesOfWord w ++ rest) = (decode w).map fun i => (i, rest) := by
  simp only [bytesOfWord, List.cons_append, List.nil_append, decodeBytes, wordOfBytes_extract]
  cases decode w <;> rfl

end Sys2Proof

namespace Sys2Proof.Machine

/-! ### Host reads of the readable registers (R62, R64) -/

theorem hostRead_arg (s : State) : s.hostRead 0x4 32 = s.answer s.arg := rfl

theorem hostRead_csr (s : State) : s.hostRead 0xC 32 = s.answer s.csr := rfl

theorem hostRead_result_of_idle {s : State} (hb : s.busy = false) : s.hostRead 0x8 32 = s.answer s.result :=
  if_neg (Bool.eq_false_iff.mp hb)

theorem hostRead_result_of_busy {s : State} (hb : s.busy = true) :
    s.hostRead 0x8 32 = s.drew.answer (Config.drawWord s.draws) :=
  if_pos hb

/-- A placed Host read is the read of its offset, the turn taken (R71). -/
theorem step_placed_read {s : State} {off : Int} {width : Nat} {ts : List Turn}
    (h : s.script = .host (.read off width) :: ts) :
    step s = .next (State.hostRead { s with script := ts } off width) :=
  step_placed h

end Sys2Proof.Machine

namespace Sys2Proof.Safety

open Sys2Proof.Machine

/-- Settles O5: the bytes put together again are the word, so decoding them is decoding the word. -/
theorem bytesDecodeLittleEndian : Obligations.BytesDecodeLittleEndian :=
  fun w rest => ⟨wordOfBytes_extract w, decodeBytes_bytesOfWord w rest⟩

/-- Settles O10: a placed read answers with its register, or with a free value for RESULT while BUSY is 1. -/
theorem hostReadsAnswer : Obligations.HostReadsAnswer := by
  refine fun s ts => ⟨fun hs => ?_, fun hs => ?_, fun hs hb => ?_, fun hs hb => ?_⟩ <;> rw [step_placed_read hs]
  · rw [hostRead_arg]
    rfl
  · rw [hostRead_csr]
    rfl
  · rw [hostRead_result_of_idle (s := { s with script := ts }) hb]
    rfl
  · rw [hostRead_result_of_busy (s := { s with script := ts }) hb]
    rfl

end Sys2Proof.Safety
end

section
/-! SUPPORT. The words of the commands (30_encoding.md): a word split into its fields, the words each format's decoder
accepts, and the rows of the opcode table. -/

namespace Sys2Proof

/-! ### A word and its fields (R80) -/

/-- Two bit strings put together from parts of the same widths are equal exactly when the parts are. -/
theorem append_eq_append_iff {m n : Nat} {x x' : BitVec m} {y y' : BitVec n} :
    x ++ y = x' ++ y' ↔ x = x' ∧ y = y' := by
  refine ⟨fun h => ⟨?_, ?_⟩, by rintro ⟨rfl, rfl⟩; rfl⟩
  · simpa only [BitVec.extractLsb'_append_eq_left] using congrArg (BitVec.extractLsb' n m) h
  · simpa only [BitVec.extractLsb'_append_eq_right] using congrArg (BitVec.extractLsb' 0 n) h

section

variable {w : Word} {i : Instr}

/-- A field of a word is `x ++ y` exactly when its upper part is `x` and its lower part is `y`. -/
theorem extractLsb'_eq_append_iff {lo m n : Nat} {x : BitVec m} {y : BitVec n} :
    w.extractLsb' lo (m + n) = x ++ y ↔ w.extractLsb' (lo + n) m = x ∧ w.extractLsb' lo n = y := by
  rw [← BitVec.extractLsb'_append_extractLsb'_eq_extractLsb' rfl, append_eq_append_iff]

/-- A word is a command's exactly when it holds the command's opcode and operands (R80). -/
theorem encode_eq_iff : encode i = w ↔ opcOf w = i.opc ∧ w.extractLsb' 0 24 = i.operandBits :=
  calc encode i = w
    _ ↔ w.extractLsb' 0 (8 + 24) = i.opc ++ i.operandBits := by rw [BitVec.extractLsb'_eq_self]; exact eq_comm
    _ ↔ opcOf w = i.opc ∧ w.extractLsb' 0 24 = i.operandBits := extractLsb'_eq_append_iff

/-! ### The words each format's decoder accepts (R81 to R85) -/

theorem decodeN_eq_ok_iff {j : Instr} : decodeN w j = .ok i ↔ w.extractLsb' 0 24 = 0#24 ∧ j = i := by
  unfold decodeN
  split <;> simp_all

theorem decodeB_eq_ok_iff {mk : Byte → Instr} :
    decodeB w mk = .ok i ↔ ∃ b, w.extractLsb' 0 (16 + 8) = 0#16 ++ b ∧ mk b = i := by
  simp only [extractLsb'_eq_append_iff, decodeB]
  split <;> simp_all

theorem decodeRW_eq_ok_iff {mk : ChipAddr → Byte → Byte → Instr} :
    decodeRW w mk = .ok i ↔ ∃ a g v, w.extractLsb' 0 (1 + 7 + 8 + 8) = 0#1 ++ a ++ g ++ v ∧ mk a g v = i := by
  simp only [extractLsb'_eq_append_iff, decodeRW]
  split <;> simp_all

theorem decodeA_eq_ok_iff {mk : ChipAddr → Instr} :
    decodeA w mk = .ok i ↔ ∃ a, w.extractLsb' 0 (1 + 7 + 16) = 0#1 ++ a ++ 0#16 ∧ mk a = i := by
  simp only [extractLsb'_eq_append_iff, decodeA]
  split <;> simp_all

theorem decodeCell_eq_ok_iff {mk : BitVec 4 → BitVec 4 → BitVec 2 → Instr} :
    decodeCell w mk = .ok i ↔
      ∃ r c h, w.extractLsb' 0 (12 + 4 + 4 + 2 + 2) = 0#12 ++ r ++ c ++ 0#2 ++ h ∧ mk r c h = i := by
  simp only [extractLsb'_eq_append_iff, decodeCell]
  split <;> simp_all

/-! ### The decoder inverts the encoder (R80 to R89) -/

/-- A word that decodes is the word of its command: its opcode selects the format, whose operands it holds. -/
theorem encode_of_decode (h : decode w = .ok i) : encode i = w := by
  unfold decode at h
  split at h
  case h_4 ho =>
    obtain ⟨b, hb, rfl⟩ := decodeB_eq_ok_iff.mp h
    exact encode_eq_iff.mpr ⟨BitVec.eq_of_toNat_eq ho, hb⟩
  case h_8 ho =>
    obtain ⟨a, g, v, hb, rfl⟩ := decodeRW_eq_ok_iff.mp h
    exact encode_eq_iff.mpr ⟨BitVec.eq_of_toNat_eq ho, hb⟩
  case h_9 ho =>
    obtain ⟨a, hb, rfl⟩ := decodeA_eq_ok_iff.mp h
    exact encode_eq_iff.mpr ⟨BitVec.eq_of_toNat_eq ho, hb⟩
  case h_16 ho | h_17 ho =>
    obtain ⟨r, c, ch, hb, rfl⟩ := decodeCell_eq_ok_iff.mp h
    exact encode_eq_iff.mpr ⟨BitVec.eq_of_toNat_eq ho, hb⟩
  case h_20 => cases h
  all_goals
    next ho =>
    obtain ⟨hb, rfl⟩ := decodeN_eq_ok_iff.mp h
    exact encode_eq_iff.mpr ⟨BitVec.eq_of_toNat_eq ho, hb⟩

/-- A command's word decodes to the command: its format's decoder accepts its operands. -/
theorem decode_of_encode (h : encode i = w) : decode w = .ok i := by
  obtain ⟨ho, hb⟩ := encode_eq_iff.mp h
  unfold decode
  rw [ho]
  cases i with
  | bdWrite b => exact decodeB_eq_ok_iff.mpr ⟨b, hb, rfl⟩
  | rtWriteReg a g v => exact decodeRW_eq_ok_iff.mpr ⟨a, g, v, hb, rfl⟩
  | chipInit a => exact decodeA_eq_ok_iff.mpr ⟨a, hb, rfl⟩
  | bufSetBrightness r c ch | bufRead r c ch => exact decodeCell_eq_ok_iff.mpr ⟨r, c, ch, hb, rfl⟩
  | _ => exact decodeN_eq_ok_iff.mpr ⟨hb, rfl⟩

/-! ### The rows of the opcode table (R88) -/

/-- The word of every command fits its row. -/
theorem encode_fits_row (i : Instr) : encode i &&& i.rowMask = i.rowMatch :=
  match i with
  | .bdInit => Laws.EncodeMatchesRow.bdInit
  | .bdStart => Laws.EncodeMatchesRow.bdStart
  | .bdStop => Laws.EncodeMatchesRow.bdStop
  | .bdWrite b => Laws.EncodeMatchesRow.bdWrite b
  | .bdReadAck => Laws.EncodeMatchesRow.bdReadAck
  | .bdReadNack => Laws.EncodeMatchesRow.bdReadNack
  | .bdStatus => Laws.EncodeMatchesRow.bdStatus
  | .rtWriteReg a g v => Laws.EncodeMatchesRow.rtWriteReg a g v
  | .chipInit a => Laws.EncodeMatchesRow.chipInit a
  | .tbInit => Laws.EncodeMatchesRow.tbInit
  | .tbStart => Laws.EncodeMatchesRow.tbStart
  | .tbStop => Laws.EncodeMatchesRow.tbStop
  | .tbClear => Laws.EncodeMatchesRow.tbClear
  | .tbRead => Laws.EncodeMatchesRow.tbRead
  | .bufClear => Laws.EncodeMatchesRow.bufClear
  | .bufSetBrightness r c ch => Laws.EncodeMatchesRow.bufSetBrightness r c ch
  | .bufRead r c ch => Laws.EncodeMatchesRow.bufRead r c ch
  | .setScale => Laws.EncodeMatchesRow.setScale
  | .sweep => Laws.EncodeMatchesRow.sweep

/-- The match is the opcode shifted to bits 31:24. -/
theorem rowMatch_eq_shiftLeft (i : Instr) : i.rowMatch = i.opc.setWidth 32 <<< 24 := by
  simpa [Instr.rowMatch] using BitVec.setWidth_append_eq_shiftLeft_setWidth_or (w'' := 32) (b := i.opc) (b' := 0#24)

/-- Where a mask has only ones, a word that fits it holds the match's bits. -/
theorem extractLsb'_of_and_eq {m v : Word} {start len : Nat} (h : w &&& m = v)
    (hm : m.extractLsb' start len = BitVec.allOnes len) : w.extractLsb' start len = v.extractLsb' start len := by
  rw [← h, BitVec.extractLsb'_and, hm, BitVec.and_allOnes]

/-- A word that fits a row has the row's opcode: every mask covers bits 31:24. -/
theorem opcOf_of_fits_row (h : w &&& i.rowMask = i.rowMatch) : opcOf w = i.opc := by
  have hm : i.rowMask.extractLsb' 24 8 = BitVec.allOnes 8 := by
    cases i <;> simp only [Instr.rowMask] <;> decide
  exact (extractLsb'_of_and_eq h hm).trans BitVec.extractLsb'_append_eq_left

/-- A word that fits a row has zeros below the opcode wherever the mask has only ones. -/
theorem reserved_of_fits_row {m : Word} {start len : Nat} (h : w &&& m = i.rowMatch)
    (hm : m.extractLsb' start len = BitVec.allOnes len) (hlt : start + len ≤ 24 := by decide) :
    w.extractLsb' start len = 0#len := by
  have hz : (i.opc ++ 0#24).extractLsb' start len = 0#len :=
    (BitVec.extractLsb'_append_eq_of_add_le hlt).trans BitVec.extractLsb'_zero
  exact (extractLsb'_of_and_eq h hm).trans hz

/-- A word that fits a row decodes to a command of the row: the format's decoder finds its reserved bits zero. -/
theorem exists_decode_of_fits_row (h : w &&& i.rowMask = i.rowMatch) : ∃ j, decode w = .ok j ∧ j.opc = i.opc := by
  unfold decode
  rw [opcOf_of_fits_row h]
  cases i with
  | bdWrite =>
    have hres : w.extractLsb' 8 16 = 0 := reserved_of_fits_row (m := 0xFFFFFF00) h (by decide)
    exact ⟨_, (if_pos hres : decodeB w .bdWrite = _), rfl⟩
  | rtWriteReg =>
    have hres : w.extractLsb' 23 1 = 0 := reserved_of_fits_row (m := 0xFF800000) h (by decide)
    exact ⟨_, (if_pos hres : decodeRW w .rtWriteReg = _), rfl⟩
  | chipInit =>
    have hres : w.extractLsb' 23 1 = 0 ∧ w.extractLsb' 0 16 = 0 :=
      ⟨reserved_of_fits_row (m := 0xFF80FFFF) h (by decide), reserved_of_fits_row (m := 0xFF80FFFF) h (by decide)⟩
    exact ⟨_, (if_pos hres : decodeA w .chipInit = _), rfl⟩
  | bufSetBrightness | bufRead =>
    have hres : w.extractLsb' 12 12 = 0 ∧ w.extractLsb' 2 2 = 0 :=
      ⟨reserved_of_fits_row (m := 0xFFFFF00C) h (by decide), reserved_of_fits_row (m := 0xFFFFF00C) h (by decide)⟩
    exact ⟨_, (if_pos hres : decodeCell w _ = _), rfl⟩
  | _ =>
    have hres : w.extractLsb' 0 24 = 0 := reserved_of_fits_row (m := 0xFFFFFFFF) h (by decide)
    exact ⟨_, (if_pos hres : decodeN w _ = _), rfl⟩

end

end Sys2Proof

namespace Sys2Proof.Safety

open Sys2Proof.Machine

/-- Settles O2: a command's word holds its opcode and operands, and these decode to the command. -/
theorem decodeOfEncode : Obligations.DecodeOfEncode :=
  fun _ => decode_of_encode rfl

/-- Settles O3: the opcode and the operands the decoder accepts are all the bits of the word. -/
theorem encodeOfDecode : Obligations.EncodeOfDecode :=
  fun _ _ => encode_of_decode

/-- Settles O4: a legal word is its command's, which fits the row, and the opcode a word holds fixes the row it fits. -/
theorem decodeIsTheOpcodeTable : Obligations.DecodeIsTheOpcodeTable := by
  refine ⟨fun w i h => ?_, fun w i => exists_decode_of_fits_row, fun w i j hi hj => ?_, rowMatch_eq_shiftLeft, ?_, ?_⟩
  · have hw := encode_of_decode h
    exact ⟨(encode_eq_iff.mp hw).1, hw ▸ encode_fits_row i⟩
  · exact (opcOf_of_fits_row hi).symm.trans (opcOf_of_fits_row hj)
  · exact fun a b g v r c h => ⟨rfl, rfl, rfl, rfl, rfl⟩
  · simp [Instr.rowMask]

/-- Settles O1: each word is decoded. -/
theorem specWordsDecode : Obligations.SpecWordsDecode := by
  unfold Obligations.SpecWordsDecode
  decide

/-- Settles O6: CMD decodes to no command, since it would then hold the command's word. -/
theorem illegalWordAnswered : Obligations.IllegalWordAnswered := by
  intro s ts hf hc hs hne
  rw [step_placed hs]
  cases hd : decode s.cmd with
  | ok i => exact absurd (encode_of_decode hd) (hne i)
  | error e => exact controllerStep_illegal (s := { s with script := ts }) hf hc hd

end Sys2Proof.Safety
end


section
/-! SUPPORT. The Bus Driver (40_bus_driver.md): what a bus procedure and a STOP do by `BD_EN`, the BusPeer's step, the
three steps of a command that issues one phase. -/

namespace Sys2Proof.Machine

/-! ### The bus procedures by `BD_EN` (R104, R237) -/

section
variable {s : State}

/-- An LMC that is not faulted takes the fault it raises (R236). -/
theorem raise_of_unfaulted (hf : s.fault = none) (k : Fault) : s.raise k = { s with fault := some k } := by
  simp [State.raise, hf]

/-- A faulted LMC keeps its fault (R41). -/
theorem raise_of_faulted (hf : s.fault ≠ none) (k : Fault) : s.raise k = s := by
  obtain ⟨k', hk⟩ := Option.ne_none_iff_exists'.mp hf
  simp [State.raise, hk]

theorem busPhase_of_enabled (hb : s.bdEn = true) (e : BusEvent) (p : Pend) (w : Wait) :
    s.busPhase e p w = s.issue e p w :=
  if_pos hb

theorem busPhase_of_disabled (hb : s.bdEn = false) (hf : s.fault = none) (e : BusEvent) (p : Pend) (w : Wait) :
    s.busPhase e p w = { s with fault := some .busNotEnabled } :=
  (if_neg (Bool.eq_false_iff.mp hb)).trans (raise_of_unfaulted hf _)

theorem busStop_of_enabled (hb : s.bdEn = true) (next : State → State) : s.busStop next = next s.issueStop :=
  if_pos hb

theorem busStop_of_disabled (hb : s.bdEn = false) (hf : s.fault = none) (next : State → State) :
    s.busStop next = { s with fault := some .busNotEnabled } :=
  (if_neg (Bool.eq_false_iff.mp hb)).trans (raise_of_unfaulted hf _)

/-- An UNKNOWN status reads as a fresh masked draw (R28, R111). -/
theorem readStat_of_none (h : s.stat = none) : s.readStat = (s.drawnStatus, s.drew) := by
  simp [State.readStat, h]

end

/-- A byte in bits 7:0 of RESULT (R109 to R111). -/
theorem setWidth_byte (b : Byte) : b.setWidth 32 = 0#24 ++ b :=
  BitVec.setWidth_eq_append (by decide)

/-! ### The BusPeer's step (R102) -/

/-- A completed phase stores its masked status, and a read phase the byte received too. -/
theorem completePhase_eq (s : State) (raw rx : Byte) :
    s.completePhase raw rx = { s with
      stat := some (raw &&& s.cfg.statusMask)
      rxd := if s.bdPend = .read true ∨ s.bdPend = .read false then some rx else s.rxd
      bdPend := .none } := by
  unfold State.completePhase
  cases s.bdPend with
  | read ack => cases ack <;> rfl
  | none | start | write b => rfl

theorem busPeerStep_of_pending {s : State} (hf : s.fault = none) (hp : s.bdPend ≠ .none) (raw rx : Byte) :
    s.busPeerStep raw rx = s.completePhase raw rx :=
  if_pos ⟨hp, hf⟩

theorem busPeerStep_hold {s : State} (h : s.fault ≠ none ∨ s.bdPend = .none) (raw rx : Byte) :
    s.busPeerStep raw rx = s :=
  if_neg fun ⟨hp, hf⟩ => h.elim (· hf) hp

/-! ### A command that issues one phase and answers (R106, R108 to R110) -/

/-- At its start the phase is issued, on an enabled bus. -/
theorem controllerStep_onePhase {s : State} {i : Instr} {e : BusEvent} {p : Pend} {w : Wait}
    (hx : ∀ u : State, exec i u = .next (u.busPhase e p w)) (hf : s.fault = none) (hc : s.ctl = .start)
    (hcmd : s.cmd = encode i) (hb : s.bdEn = true) : s.controllerStep = .next (s.issue e p w) := by
  rw [controllerStep_start hf hc (decode_of_encode hcmd.symm), hx, busPhase_of_enabled hb]

/-- The BusPeer completes a phase just issued. -/
theorem busPeerStep_issue {s : State} {p : Pend} (hf : s.fault = none) (hp : p ≠ .none) (e : BusEvent) (w : Wait)
    (raw rx : Byte) :
    (s.issue e p w).busPeerStep raw rx = { s with
      busTrace := s.busTrace ++ [e], stat := some (raw &&& s.cfg.statusMask)
      rxd := if p = .read true ∨ p = .read false then some rx else s.rxd
      bdPend := .none, ctl := .waitBus w } := by
  rw [busPeerStep_of_pending (s := s.issue e p w) hf hp, completePhase_eq]
  rfl

/-- Its three steps: the phase issued, the BusPeer's completion, and what follows the wait. -/
theorem run_onePhase {s : State} {i : Instr} {e : BusEvent} {p : Pend} {w : Wait} {raw rx : Byte} {ts : List Turn}
    (hx : ∀ u : State, exec i u = .next (u.busPhase e p w)) (hp : p ≠ .none) (hb : s.bdEn = true)
    (hs : Safety.Starts s i (.busPeer raw rx :: .controller :: ts)) :
    Host.Core.run core 3 s = .next (State.resume { s with
      busTrace := s.busTrace ++ [e], stat := some (raw &&& s.cfg.statusMask)
      rxd := if p = .read true ∨ p = .read false then some rx else s.rxd
      bdPend := .none, ctl := .waitBus w, script := ts } w) := by
  obtain ⟨hf, hc, hcmd, hscript⟩ := hs
  have hcomplete := busPeerStep_issue (s := { s with script := .controller :: ts }) hf hp e w raw rx
  refine run_placed hscript (controllerStep_onePhase (s := { s with script := _ }) hx hf hc hcmd hb) <|
    run_placed rfl (congrArg Host.Outcome.next hcomplete) <| run_placed rfl ?_ rfl
  exact controllerStep_resume hf rfl rfl

end Sys2Proof.Machine

namespace Sys2Proof.Safety

open Sys2Proof.Machine

/-- Settles O17: the BusPeer completes a phase that is pending without a fault and holds otherwise, and the Controller
holds meanwhile and at IDLE. -/
theorem busPeerCompletesPhase : Obligations.BusPeerCompletesPhase := by
  refine fun s raw rx ts => ⟨fun hs hf hp => ?_, fun hs hn => ?_, fun w hs hc hp => ?_, fun hs hc => ?_⟩ <;>
    rw [step_placed hs]
  · have hstep := busPeerStep_of_pending (s := { s with script := ts }) hf hp raw rx
    exact congrArg Host.Outcome.next (hstep.trans (completePhase_eq _ raw rx))
  · exact congrArg Host.Outcome.next (busPeerStep_hold (s := { s with script := ts }) hn raw rx)
  · exact controllerStep_pending (s := { s with script := ts }) hc hp
  · exact controllerStep_idle (s := { s with script := ts }) hc

/-- Settles O20: the state BD_INIT leaves is one it leaves as it is. -/
theorem bdInitEnables : Obligations.BdInitEnables :=
  ⟨rfl, fun _ => ⟨_, rfl, rfl, rfl⟩⟩

/-- Settles O21: BD_START is a bus procedure, run through its phase by `run_onePhase`. -/
theorem bdStartRuns : Obligations.BdStartRuns := by
  refine fun s raw rx ts => ⟨fun hb => ?_, fun hb hs => ?_, fun hb hf => ?_⟩
  · exact congrArg Host.Outcome.next (busPhase_of_enabled hb _ _ _)
  · exact run_onePhase (p := .start) (fun _ => rfl) nofun hb hs
  · exact congrArg Host.Outcome.next (busPhase_of_disabled hb hf _ _ _)

/-- Settles O22: BD_STOP answers in the step that emits the STOP. -/
theorem bdStopDoesNotWait : Obligations.BdStopDoesNotWait := by
  refine ⟨rfl, fun s => ⟨fun hb => ?_, fun hb hf => ?_⟩⟩
  · exact congrArg Host.Outcome.next (busStop_of_enabled hb _)
  · exact congrArg Host.Outcome.next (busStop_of_disabled hb hf _)

/-- Settles O23: BD_WRITE is a bus procedure, run through its phase by `run_onePhase`. -/
theorem bdWriteRuns : Obligations.BdWriteRuns := by
  refine fun s b raw rx ts => ⟨fun hb => ?_, fun hb hs => ?_, fun hb hf => ?_⟩
  · exact congrArg Host.Outcome.next (busPhase_of_enabled hb _ _ _)
  · exact run_onePhase (p := .write b) (fun _ => rfl) nofun hb hs
  · exact congrArg Host.Outcome.next (busPhase_of_disabled hb hf _ _ _)

/-- Settles O24: both read commands are one bus procedure, and the byte the completion stores is the one answered. -/
theorem bdReadsRun : Obligations.BdReadsRun := by
  intro s i ack raw rx ts hi
  have hx : ∀ u : State, exec i u = .next (u.busPhase (.read ack) (.read ack) .respondByte) := by
    obtain ⟨rfl, rfl⟩ | ⟨rfl, rfl⟩ := hi <;> exact fun _ => rfl
  refine ⟨fun hb => ?_, fun hb hs => ?_, fun hb hf => ?_⟩
  · rw [hx, busPhase_of_enabled hb]
    rfl
  · rw [run_onePhase hx nofun hb hs, ← setWidth_byte]
    cases ack <;> rfl
  · rw [hx, busPhase_of_disabled hb hf]

/-- Settles O25: BD_STATUS answers what a read of `STAT` finds, which draws while it is UNKNOWN. -/
theorem bdStatusReads : Obligations.BdStatusReads := by
  refine ⟨rfl, fun s => ⟨fun v hv => ?_, fun hn => ?_⟩⟩ <;> simp only [exec, execBdStatus]
  · rw [readStat_of_some hv, setWidth_byte]
    rfl
  · rw [readStat_of_none hn, setWidth_byte]
    rfl

end Sys2Proof.Safety
end

section
/-! SUPPORT. What the first step of every command leaves alone: the own update of a command off the bus, the bus
procedures and the Scan Engine's first step. -/

namespace Sys2Proof.Machine

/-! ### A fault already set stays (R41) -/

/-- However a Controller's step ends, it raises no second fault. -/
theorem Ends.fault_of_faulted {scan : Bool} {s t : State} (h : Ends scan s t) (hf : s.fault ≠ none) :
    t.fault = s.fault := by
  obtain ⟨m, hm, he⟩ := h
  have hmf : m.fault = s.fault := by rw [hm.frame]
  cases he with
  | respond c r => exact hmf
  | disabled hb => rw [raise_of_faulted (hmf ▸ hf), hmf]
  | issue e p w => exact hmf

theorem scanStart_fault_of_faulted {s : State} (hf : s.fault ≠ none) : s.scanStart.fault = s.fault := by
  obtain ⟨-, h⟩ | ⟨-, -, h⟩ | ⟨-, -, h⟩ := scanStart_cases s
  · rw [h, State.respond_fault]
  · rw [h, raise_of_faulted hf]
  · exact h.fault_of_faulted hf

theorem exec_fault_of_faulted {i : Instr} {s t : State} (hx : exec i s = .next t) (hf : s.fault ≠ none) :
    t.fault = s.fault := by
  cases hi : offBus i with
  | true =>
    obtain ⟨c, r, rfl⟩ | ⟨r, rfl⟩ | ⟨-, -, rfl⟩ := exec_offBus hi hx
    · exact ownUpdate_fault i s
    · rfl
    · rw [raise_of_faulted hf]
  | false =>
    obtain ⟨-, h⟩ | ⟨-, rfl⟩ := exec_onBus hi hx
    · exact h.fault_of_faulted hf
    · exact scanStart_fault_of_faulted hf

/-! ### What the parts of a first step write -/

/-- The own update of BUF_SET_BRIGHTNESS writes the Buffer alone (R211). -/
theorem ownUpdate_bufSetBrightness_frame (s : State) (r c : BitVec 4) (h : BitVec 2) :
    ownUpdate (.bufSetBrightness r c h) s = { s with buf := (ownUpdate (.bufSetBrightness r c h) s).buf } := by
  dsimp only [ownUpdate]
  cases cellOf r c h <;> rfl

/-- A read of `STAT` writes the draws alone (R111). -/
theorem readStat_frame (s : State) : s.readStat.2 = { s with draws := s.readStat.2.draws } := by
  unfold State.readStat
  split <;> rfl

/-- A STOP is followed by what comes next in the same step, or faults (R104, R107). -/
theorem busStop_cases (s : State) (next : State → State) :
    s.busStop next = next s.issueStop ∨ s.busStop next = s.raise .busNotEnabled := by
  unfold State.busStop
  split
  · exact .inl rfl
  · exact .inr rfl

/-- CHIP_INIT's next write or answer writes what a bus procedure or a response does (R180). -/
theorem initWrite_frame (s : State) (a : ChipAddr) (idx : Nat) :
    s.initWrite a idx = { s with
      busTrace := (s.initWrite a idx).busTrace, bdPend := (s.initWrite a idx).bdPend
      ctl := (s.initWrite a idx).ctl, result := (s.initWrite a idx).result, resp := (s.initWrite a idx).resp
      busy := (s.initWrite a idx).busy, fault := (s.initWrite a idx).fault } := by
  unfold State.initWrite
  split
  · unfold State.writeRegister State.busStart
    rw [busPhase_frame]
  · rfl

/-- A pass begins with writes of the outputs, the bus, the control point and the fault alone (R153). -/
theorem scanPass_frame (s : State) (se : Scan) :
    s.scanPass se = { s with
      en := (s.scanPass se).en, hb := (s.scanPass se).hb, outTrace := (s.scanPass se).outTrace
      busTrace := (s.scanPass se).busTrace, bdPend := (s.scanPass se).bdPend, ctl := (s.scanPass se).ctl
      fault := (s.scanPass se).fault } := by
  unfold State.scanPass State.scanColumn
  rw [scanTxn_frame]
  rfl

/-- SWEEP's first step writes the run bit and the answer besides (R150, R151). -/
theorem scanStart_frame (s : State) :
    s.scanStart = { s with
      tbRun := s.scanStart.tbRun, en := s.scanStart.en, hb := s.scanStart.hb, outTrace := s.scanStart.outTrace
      busTrace := s.scanStart.busTrace, bdPend := s.scanStart.bdPend, ctl := s.scanStart.ctl
      result := s.scanStart.result, resp := s.scanStart.resp, busy := s.scanStart.busy
      fault := s.scanStart.fault } := by
  unfold State.scanStart
  split
  · split
    · rw [scanPass_frame]
    · unfold State.raise
      split <;> rfl
  · rfl

end Sys2Proof.Machine

namespace Sys2Proof.Safety

open Sys2Proof.Machine

/-- Settles O52: each command's first step is a bus procedure, a STOP, a read of `STAT`, a write of `INIT_SEQ`, SWEEP's
entry, or the own update of a command off the bus, each of which says what it writes. -/
theorem execFrame : Obligations.ExecFrame := by
  intro i s t hx
  have hfault := exec_fault_of_faulted hx
  cases i with
  | bdStart | bdWrite _ | bdReadAck | bdReadNack | rtWriteReg _ _ _ =>
    obtain ⟨e, p, w, rfl⟩ : ∃ e p w, t = s.busPhase e p w := by cases hx; exact ⟨_, _, _, rfl⟩
    rw [busPhase_frame]
    simpa using hfault
  | bdStop =>
    obtain rfl | rfl : t = s.issueStop.respond .ok 0 ∨ t = s.raise .busNotEnabled := by
      cases hx; exact busStop_cases s _
    · simp
    · simpa using hfault
  | bdStatus =>
    cases hx
    rw [readStat_frame]
    simp
  | chipInit a =>
    cases hx
    rw [initWrite_frame]
    simpa using hfault
  | sweep =>
    cases hx
    rw [scanStart_frame]
    simpa using hfault
  | bufSetBrightness r c h =>
    obtain ⟨_, _, rfl⟩ | ⟨_, rfl⟩ | ⟨hi, -⟩ := exec_offBus rfl hx
    · rw [ownUpdate_bufSetBrightness_frame]
      simp
    · simp
    · cases hi
  | bdInit | tbInit | tbStart | tbStop | tbClear | tbRead | bufClear | bufRead _ _ _ | setScale =>
    obtain ⟨_, _, rfl⟩ | ⟨_, rfl⟩ | ⟨-, -, rfl⟩ := exec_offBus rfl hx
    · simp [ownUpdate]
    · simp
    · simpa using hfault

end Sys2Proof.Safety
end

section
/-! SUPPORT. The Register Transaction Sequencer (41_register_transaction.md): the phases of a register write and what each
sends, the Controller's step at a completed phase, and the run of RT_WRITE_REG through its phases. -/

namespace Sys2Proof.Machine

/-! ### The address byte (R131) -/

/-- The number two bit strings put together stand for. -/
theorem toNat_append_eq {m n : Nat} (x : BitVec m) (y : BitVec n) : (x ++ y).toNat = x.toNat * 2 ^ n + y.toNat := by
  rw [BitVec.toNat_append, ← Nat.shiftLeft_add_eq_or_of_lt y.isLt, Nat.shiftLeft_eq]

theorem slaw_toNat (a : ChipAddr) : (slaw a).toNat = 2 * a.toNat :=
  (toNat_append_eq a 0#1).trans (Nat.mul_comm _ _)

/-- An even byte is the address byte of its bits 7:1. -/
theorem slaw_extractLsb' {b : Byte} (h : b.toNat % 2 = 0) : slaw (b.extractLsb' 1 7) = b := by
  apply BitVec.eq_of_toNat_eq
  rw [slaw_toNat, BitVec.extractLsb'_toNat, Nat.shiftRight_eq_div_pow]
  omega

/-! ### The phases of a register write (R130) -/

/-- The phase that follows a phase of a register write; after DATA there is none. -/
def Phase.next : Phase → Option Phase
  | .start => some .address
  | .address => some .register
  | .register => some .data
  | .data => none

/-- What a register write waits for at its phase. -/
def Txn.pend (t : Txn) : Pend :=
  match t.ph with
  | .start => .start
  | .address => .write (slaw t.addr)
  | .register => .write t.reg
  | .data => .write t.val

/-- The event with which a register write begins its phase. -/
def Txn.event (t : Txn) : BusEvent :=
  match t.ph with
  | .start => .start
  | .address => .byte (slaw t.addr)
  | .register => .byte t.reg
  | .data => .byte t.val

/-- A register write begins its phase on an enabled bus. -/
def State.issueTxn (s : State) (t : Txn) (who : Caller) : State := s.issue t.event t.pend (.txn t who)

theorem Txn.pend_ne_none (t : Txn) : t.pend ≠ .none := by
  unfold Txn.pend
  cases t.ph <;> nofun

/-- A register write never reads a byte. -/
theorem Txn.pend_ne_read (t : Txn) (ack : Bool) : t.pend ≠ .read ack := by
  unfold Txn.pend
  cases t.ph <;> nofun

/-- A register write emits the events of `writeEvents` in order, one at each phase. -/
theorem take_writeEvents_next {t : Txn} {q : Phase} (hn : t.ph.next = some q) :
    (Safety.writeEvents t.addr t.reg t.val).take q.number.toNat =
      (Safety.writeEvents t.addr t.reg t.val).take t.ph.number.toNat ++ [{ t with ph := q }.event] := by
  obtain ⟨a, g, v, p⟩ := t
  cases p <;> cases hn <;> rfl

/-! ### Where a register write begins, goes on and ends -/

section
variable {s : State}

theorem writeRegister_of_enabled (hb : s.bdEn = true) (a : ChipAddr) (g v : Byte) (who : Caller) :
    s.writeRegister a g v who = s.issueTxn { addr := a, reg := g, val := v, ph := .start } who :=
  busPhase_of_enabled hb _ _ _

/-- The expected status at a phase that is not the last begins the next one. -/
theorem checkPhase_of_expected {t : Txn} {q : Phase} (hb : s.bdEn = true) (hst : s.stat = some t.ph.expected)
    (hn : t.ph.next = some q) (who : Caller) (back : TxnEnd → State → State) :
    s.checkPhase t who back = s.issueTxn { t with ph := q } who := by
  have hread := readStat_of_some hst
  obtain ⟨hne, -⟩ | ⟨-, ⟨hp, h⟩ | ⟨hp, h⟩ | ⟨hp, h⟩ | ⟨hp, -⟩⟩ := checkPhase_cases s t who back
  · exact absurd (congrArg Prod.fst hread) hne
  all_goals rw [hp] at hn; cases hn
  all_goals
    rw [h, hread]
    exact busPhase_of_enabled hb _ _ _

/-- CHIP_INIT's write at an index of `INIT_SEQ` begins with a START (R180). -/
theorem initWrite_of_some {idx : Nat} {g v : Byte} (hb : s.bdEn = true) (h : s.cfg.initSeq[idx]? = some (g, v))
    (a : ChipAddr) :
    s.initWrite a idx = s.issueTxn { addr := a, reg := g, val := v, ph := .start } (.chipInit a idx) := by
  simp only [State.initWrite, h]
  exact writeRegister_of_enabled hb a g v _

/-- Past the end of `INIT_SEQ` CHIP_INIT answers OK (R180). -/
theorem initWrite_of_length_le {idx : Nat} (h : s.cfg.initSeq.length ≤ idx) (a : ChipAddr) :
    s.initWrite a idx = s.respond .ok 0 := by
  simp only [State.initWrite, List.getElem?_eq_none h]

/-- The word `ph << 8 | st` of a failed RT_WRITE_REG (R134, R231). -/
theorem failureWord_eq (p : BitVec 4) (st : Byte) :
    (0#20 ++ p ++ st : Word) = BitVec.ofNat 32 (p.toNat * 256 + st.toNat) := by
  apply BitVec.eq_of_toNat_eq
  calc (0#20 ++ p ++ st).toNat
    _ = (0#20 ++ p).toNat * 256 + st.toNat := toNat_append_eq _ _
    _ = p.toNat * 256 + st.toNat := by rw [toNat_append_eq]; simp
    _ = (BitVec.ofNat 32 (p.toNat * 256 + st.toNat)).toNat := by rw [BitVec.toNat_ofNat]; omega

end

end Sys2Proof.Machine

namespace Sys2Proof.Safety

open Sys2Proof.Machine

/-! ### The Controller's step at a completed phase (R130, R133) -/

section
variable {s : State} {t : Txn} {who : Caller} {st : Byte} {ts : List Turn}

/-- The expected status at a phase that is not the last begins the next phase. -/
theorem step_phaseDone_next {p q : Phase} (h : PhaseDone s t who st ts) (hp : t.ph = p) (he : st = p.expected)
    (hn : p.next = some q) : step s = .next (({ s with script := ts } : State).issueTxn { t with ph := q } who) := by
  subst hp he
  rw [step_phaseDone h]
  obtain ⟨-, -, -, -, hb, hst⟩ := h
  exact congrArg Host.Outcome.next (checkPhase_of_expected (s := { s with script := ts }) hb hst hn _ _)

/-- The expected status at the last phase emits the STOP and returns a success to the caller. -/
theorem step_phaseDone_stop (h : PhaseDone s t who st ts) (hp : t.ph = .data) (he : st = Phase.data.expected) :
    step s = .next (({ s with script := ts } : State).issueStop.endTxn who { ok := true, ph := 0, st := 0 }) := by
  rw [step_txnOver h (.inr hp), if_pos (hp ▸ he)]

/-- A mismatch in RT_WRITE_REG answers BUS_FAILURE (R134). -/
theorem step_phaseDone_failed (h : PhaseDone s t .writeReg st ts) (hne : st ≠ t.ph.expected) :
    step s = .next (({ s with script := ts } : State).respond .busFailure
      (BitVec.ofNat 32 (t.ph.number.toNat * 256 + st.toNat))) := by
  rw [step_txnOver h (.inl hne), if_neg hne]
  exact congrArg (fun w => Host.Outcome.next (State.respond { s with script := ts } .busFailure w))
    (failureWord_eq t.ph.number st)

end

/-- Settles O60: a matching status begins the next phase, or after the last emits the STOP and returns to the caller; a
mismatch returns at once. -/
theorem writeRegisterAdvances : Obligations.WriteRegisterAdvances := by
  intro s t who st ts h
  have ⟨_, _, _, _, hb, _⟩ := h
  refine ⟨fun hp he => ?_, fun hp he => ?_, fun hp he => ?_, fun hp he hw => ?_, fun a idx g v hp he hw hi => ?_,
    fun a idx hp he hw hi => ?_, fun hw hne => ?_⟩
  · exact step_phaseDone_next h hp he rfl
  · exact step_phaseDone_next h hp he rfl
  · exact step_phaseDone_next h hp he rfl
  · subst hw
    exact step_phaseDone_stop h hp he
  · subst hw
    have hnext := initWrite_of_some (s := ({ s with script := ts } : State).issueStop) hb hi a
    have hev : s.busTrace ++ [.stop, .start] = s.busTrace ++ [.stop] ++ [.start] := by simp
    rw [step_phaseDone_stop h hp he, hev]
    exact congrArg Host.Outcome.next hnext
  · subst hw
    have hdone := initWrite_of_length_le (s := ({ s with script := ts } : State).issueStop) hi a
    rw [step_phaseDone_stop h hp he]
    exact congrArg Host.Outcome.next hdone
  · subst hw
    exact step_phaseDone_failed h hne

/-- Settles O28: the register write of RT_WRITE_REG begins on an enabled bus. -/
theorem rtWriteRegBeginsWithStart : Obligations.RtWriteRegBeginsWithStart :=
  fun _ a g v hb => congrArg Host.Outcome.next (writeRegister_of_enabled hb a g v _)

/-- Settles O27: the address byte holds the address above a zero bit, and an even byte is its own bits 7:1 doubled. -/
theorem addressByteIsShifted : Obligations.AddressByteIsShifted := by
  refine ⟨fun a => ⟨slaw_toNat a, ?_, ?_⟩, fun b h => ⟨_, slaw_extractLsb' h⟩⟩
  · exact BitVec.getLsbD_append
  · exact BitVec.extractLsb'_append_eq_left

/-! ### The run of a register write through its phases (R130) -/

/-- Where the register write `t` of `who` begun in `s` waits for its phase: the events up to that phase are emitted. -/
def inWrite (s : State) (t : Txn) (who : Caller) (st : Option Byte) (ts : List Turn) : State :=
  { s with
    busTrace := s.busTrace ++ (writeEvents t.addr t.reg t.val).take t.ph.number.toNat
    stat := st, bdPend := t.pend, ctl := .waitBus (.txn t who), script := ts }

/-- Such a place after the BusPeer's completion: the masked status is stored and nothing is pending (R102). -/
def inWriteDone (s : State) (t : Txn) (who : Caller) (raw : Byte) (ts : List Turn) : State :=
  { inWrite s t who (some (raw &&& s.cfg.statusMask)) ts with bdPend := .none }

/-- A run of one more step begins with that step. -/
theorem run_succ {n : Nat} {s u : State} (h : step s = .next u) :
    Host.Core.run core (n + 1) s = Host.Core.run core n u := by
  have hs : core.step s = .next u := h
  simp only [Host.Core.run, hs]

section
variable {s : State} {t : Txn} {who : Caller} {st : Option Byte} {raw rx : Byte} {ts : List Turn}

theorem step_inWrite (hf : s.fault = none) :
    step (inWrite s t who st (.busPeer raw rx :: ts)) = .next (inWriteDone s t who raw ts) := by
  rw [step_placed rfl]
  have hstep := busPeerStep_of_pending (s := inWrite s t who st ts) hf t.pend_ne_none raw rx
  rw [completePhase_eq, if_neg fun h => h.elim (t.pend_ne_read true) (t.pend_ne_read false)] at hstep
  exact congrArg Host.Outcome.next hstep

theorem phaseDone_inWriteDone (hf : s.fault = none) (hb : s.bdEn = true) :
    PhaseDone (inWriteDone s t who raw (.controller :: ts)) t who (raw &&& s.cfg.statusMask) ts :=
  ⟨hf, rfl, rfl, rfl, hb, rfl⟩

/-- A phase that reports the expected status, and is not the last, takes two steps to the next. -/
theorem run_inWrite_next {n : Nat} {p q : Phase} (hf : s.fault = none) (hb : s.bdEn = true) (hp : t.ph = p)
    (he : raw &&& s.cfg.statusMask = p.expected) (hn : p.next = some q) :
    Host.Core.run core (n + 2) (inWrite s t who st (.busPeer raw rx :: .controller :: ts)) =
      Host.Core.run core n (inWrite s { t with ph := q } who (some (raw &&& s.cfg.statusMask)) ts) := by
  subst hp
  rw [run_succ (step_inWrite hf), run_succ (step_phaseDone_next (phaseDone_inWriteDone hf hb) rfl he hn)]
  congr 1
  simp only [inWrite, take_writeEvents_next hn, ← List.append_assoc]
  rfl

/-- The last phase, reporting the expected status, ends RT_WRITE_REG with the STOP and OK. -/
theorem run_inWrite_ok (hf : s.fault = none) (hb : s.bdEn = true) (hp : t.ph = .data)
    (he : raw &&& s.cfg.statusMask = Phase.data.expected) :
    Host.Core.run core 2 (inWrite s t .writeReg st (.busPeer raw rx :: .controller :: ts)) = .next { s with
      busTrace := s.busTrace ++ writeEvents t.addr t.reg t.val, stat := none, bdPend := .none
      result := 0, resp := .ok, busy := false, ctl := .idle, script := ts } := by
  rw [run_succ (step_inWrite hf), run_succ (step_phaseDone_stop (phaseDone_inWriteDone hf hb) hp he)]
  have hev : writeEvents t.addr t.reg t.val =
      (writeEvents t.addr t.reg t.val).take t.ph.number.toNat ++ [.stop] := by rw [hp]; rfl
  rw [hev, ← List.append_assoc]
  rfl

/-- A phase that reports another status ends RT_WRITE_REG with no STOP and BUS_FAILURE. -/
theorem run_inWrite_failed {p : Phase} (hf : s.fault = none) (hb : s.bdEn = true) (hp : t.ph = p)
    (hne : raw &&& s.cfg.statusMask ≠ p.expected) :
    Host.Core.run core 2 (inWrite s t .writeReg st (.busPeer raw rx :: .controller :: ts)) = .next { s with
      busTrace := s.busTrace ++ (writeEvents t.addr t.reg t.val).take p.number.toNat
      stat := some (raw &&& s.cfg.statusMask), bdPend := .none
      result := BitVec.ofNat 32 (p.number.toNat * 256 + (raw &&& s.cfg.statusMask).toNat), resp := .busFailure
      busy := false, ctl := .idle, script := ts } := by
  subst hp
  rw [run_succ (step_inWrite hf), run_succ (step_phaseDone_failed (phaseDone_inWriteDone hf hb) hne)]
  rfl

/-- RT_WRITE_REG's first step leads to the wait for START. -/
theorem run_rtWriteReg {n : Nat} {a : ChipAddr} {g v : Byte} (hb : s.bdEn = true)
    (hs : Starts s (.rtWriteReg a g v) ts) :
    Host.Core.run core (n + 1) s =
      Host.Core.run core n (inWrite s { addr := a, reg := g, val := v, ph := .start } .writeReg s.stat ts) := by
  obtain ⟨hf, hc, hcmd, hscript⟩ := hs
  refine run_succ ((step_placed hscript).trans ?_)
  exact controllerStep_onePhase (s := { s with script := ts }) (fun _ => rfl) hf hc hcmd hb

end

/-- The first mismatch, phase by phase (R132). -/
theorem firstMismatch_eq (m r1 r2 r3 r4 : Byte) :
    firstMismatch m [r1, r2, r3, r4] =
      if r1 &&& m = Phase.start.expected then
        if r2 &&& m = Phase.address.expected then
          if r3 &&& m = Phase.register.expected then
            if r4 &&& m = Phase.data.expected then none else some (.data, r4 &&& m)
          else some (.register, r3 &&& m)
        else some (.address, r2 &&& m)
      else some (.start, r1 &&& m) := by
  split_ifs <;> simp [firstMismatch, *]

/-- Settles O29: each phase that matches leads to the next, and the first that does not, or the last, ends the run. -/
theorem registerWriteRuns : Obligations.RegisterWriteRuns := by
  intro s a g v r1 r2 r3 r4 ts hb hs
  have atStart (n : Nat) := run_rtWriteReg (n := n) hb hs
  obtain ⟨hf, -, -, hscript⟩ := hs
  rw [firstMismatch_eq, hscript]
  by_cases h1 : r1 &&& s.cfg.statusMask = Phase.start.expected
  case neg =>
    rw [if_neg h1]
    exact (atStart 2).trans (run_inWrite_failed hf hb rfl h1)
  have atAddress (n : Nat) := (atStart (n + 2)).trans (run_inWrite_next hf hb rfl h1 rfl)
  rw [if_pos h1]
  by_cases h2 : r2 &&& s.cfg.statusMask = Phase.address.expected
  case neg =>
    rw [if_neg h2]
    exact (atAddress 2).trans (run_inWrite_failed hf hb rfl h2)
  have atRegister (n : Nat) := (atAddress (n + 2)).trans (run_inWrite_next hf hb rfl h2 rfl)
  rw [if_pos h2]
  by_cases h3 : r3 &&& s.cfg.statusMask = Phase.register.expected
  case neg =>
    rw [if_neg h3]
    exact (atRegister 2).trans (run_inWrite_failed hf hb rfl h3)
  have atData (n : Nat) := (atRegister (n + 2)).trans (run_inWrite_next hf hb rfl h3 rfl)
  rw [if_pos h3]
  by_cases h4 : r4 &&& s.cfg.statusMask = Phase.data.expected
  case neg =>
    rw [if_neg h4]
    exact (atData 2).trans (run_inWrite_failed hf hb rfl h4)
  rw [if_pos h4]
  exact (atData 2).trans (run_inWrite_ok hf hb rfl h4)

end Sys2Proof.Safety
end

section
/-! SUPPORT. The Scan Engine (42_scan_engine.md): how a pass begins, what the loop test does by the elapsed ticks, where a
sweep can end, and what the end of a transaction leads to. -/

namespace Sys2Proof.Machine

/-! ### The bytes of a duty value (R68) -/

theorem dutyLow_toNat (d : Duty) : (dutyLow d).toNat = d.toNat % 256 := by
  simp [dutyLow, BitVec.extractLsb'_toNat]

theorem dutyHigh_toNat (d : Duty) : (dutyHigh d).toNat = d.toNat / 256 := by
  rw [dutyHigh, toNat_append_eq, BitVec.extractLsb'_toNat, Nat.shiftRight_eq_div_pow, BitVec.toNat_ofNat]
  omega

/-! ### A pass begins (R150, R151, R153, R154) -/

/-- The first place of a pass, with what a sweep keeps from pass to pass (R153). -/
def Scan.first (se : Scan) : Scan := { se with i := 0, r := 0, ch := 0, half := .low }

/-- SWEEP's entry up to its first transaction (R151, R153, R154). -/
def State.sweepEntry (s : State) : State :=
  ({ s with tbRun := true } : State).toggleHb.setEn (oneHot s.cfg.colOrder[0])

/-- What the Scan Engine holds at its first transaction (R150, R151). -/
def State.entryScan (s : State) : Scan :=
  { base := s.cnt, period := s.arg.toNat, i := 0, r := 0, ch := 0, half := .low, fails := 0 }

section
variable {s : State}

/-- On an enabled bus a pass begins with the heartbeat, the first column and a START (R153, R154). -/
theorem scanPass_of_enabled (hb : s.bdEn = true) (se : Scan) :
    s.scanPass se = (s.toggleHb.setEn (oneHot s.cfg.colOrder[0])).issue .start .start
      (.txn (Safety.scanTxnAt s se.first) (.sweep se.first)) :=
  Safety.scanTxn_enabled (s := s.toggleHb.setEn (oneHot s.cfg.colOrder[0])) hb se.first

/-- A period that fits begins a sweep, with the counter as its baseline and no failure counted (R150, R151). -/
theorem scanStart_of_period_lt (ht : s.tbCfg = true) (hp : s.arg.toNat < 2 ^ s.cfg.tbWidth) :
    s.scanStart = { s with tbRun := true }.scanPass
      { base := s.cnt, period := s.arg.toNat, i := 0, r := 0, ch := 0, half := .low, fails := 0 } := by
  simp only [State.scanStart, periodOk, hp, decide_true, if_true, ht, periodOf, Nat.mod_eq_of_lt hp]

/-- SWEEP's first step on an enabled bus (R150, R151, R153, R154). -/
theorem scanStart_of_enabled (hb : s.bdEn = true) (ht : s.tbCfg = true) (hp : s.arg.toNat < 2 ^ s.cfg.tbWidth) :
    s.scanStart =
      s.sweepEntry.issue .start .start (.txn (Safety.scanTxnAt s s.entryScan) (.sweep s.entryScan)) :=
  (scanStart_of_period_lt ht hp).trans (scanPass_of_enabled (s := { s with tbRun := true }) hb s.entryScan)

/-- A period that is too wide answers INPUT_ERROR (R150). -/
theorem scanStart_of_le_period (hp : 2 ^ s.cfg.tbWidth ≤ s.arg.toNat) : s.scanStart = s.respond .inputError 0 :=
  if_neg (by simpa [periodOk] using hp)

/-! ### The loop test (R159, R160) -/

/-- The end of a sweep: the Time Base stopped and clear, every column off, the failure count answered (R160). -/
def State.scanExit (s : State) (fails : Word) : State :=
  ({ s with tbRun := false, cnt := 0 }.setEn 0).respond .ok fails

theorem scanTest_of_lt {se : Scan} (h : elapsed s.cfg.tbWidth s.cnt se.base < se.period) :
    s.scanTest se = s.scanPass se :=
  if_pos h

theorem scanTest_of_le {se : Scan} (h : se.period ≤ elapsed s.cfg.tbWidth s.cnt se.base) :
    s.scanTest se = s.scanExit se.fails :=
  if_neg h.not_gt

/-! ### Where a sweep can end (R161) -/

/-- A bus procedure that waits does not lead to IDLE (R104). -/
theorem busPhase_ctl_ne_idle (hc : s.ctl ≠ .idle) (e : BusEvent) (p : Pend) (w : Wait) :
    (s.busPhase e p w).ctl ≠ .idle := by
  unfold State.busPhase
  split
  · exact Ctl.noConfusion
  · rwa [State.raise_ctl]

/-- The environment's moves do not lead to IDLE (R24). -/
theorem EnvMove.ctl_ne_idle {s' : State} (h : EnvMove s s') (hc : s.ctl ≠ .idle) : s'.ctl ≠ .idle := by
  cases h with
  | start => exact Ctl.noConfusion
  | complete raw rx => rwa [completePhase_eq]
  | outside | hostFault | arg | tick => exact hc

/-- Of what can follow a transaction only the exit after a pass leads to IDLE (R155, R159, R160). -/
theorem endScanWrite_idle {se : Scan} {e : TxnEnd} (hc : s.ctl ≠ .idle) (hi : (s.endScanWrite se e).ctl = .idle) :
    Safety.scanPos se = 485 ∧ se.period ≤ elapsed s.cfg.tbWidth s.cnt se.base ∧
      s.endScanWrite se e = s.scanExit (if e.ok then se.fails else countFail se.fails) := by
  obtain ⟨x, hx, hfails, ⟨y, -, h⟩ | ⟨y, -, h⟩ | ⟨hn, h⟩⟩ := endScanWrite_cases s se e <;> rw [h] at hi ⊢
  · exact absurd hi (busPhase_ctl_ne_idle hc _ _ _)
  · exact absurd hi (busPhase_ctl_ne_idle (s := s.setEn _) hc _ _ _)
  · have hpos : Safety.scanPos x = 485 := by
      obtain ⟨y, hy, -⟩ | ⟨y, hy, -⟩ | ⟨-, hp⟩ := Safety.next_cases x
      · simp [hn] at hy
      · simp [hn] at hy
      · exact hp
    by_cases hlt : elapsed s.cfg.tbWidth s.cnt x.base < x.period
    · rw [scanTest_of_lt hlt] at hi
      exact absurd hi (busPhase_ctl_ne_idle (s := s.toggleHb.setEn _) hc _ _ _)
    · rw [scanTest_of_le (Nat.le_of_not_lt hlt), hfails]
      rw [hx] at hpos hlt
      exact ⟨hpos, Nat.le_of_not_lt hlt, rfl⟩

end

end Sys2Proof.Machine

namespace Sys2Proof.Safety

open Sys2Proof.Machine

/-- Settles O34: the entry and the beginning of a pass, and the two bytes of a duty value. -/
theorem sweepBegins : Obligations.SweepBegins := by
  refine ⟨fun s hb ht hp => ?_, fun s i r ch => ⟨_, _, dutyLow_toNat _, dutyHigh_toNat _, rfl, rfl⟩⟩
  rw [List.append_cons s.outTrace]
  exact congrArg Host.Outcome.next (scanStart_of_enabled hb ht hp)

/-- Settles O35: the check of the period comes first. -/
theorem sweepRejectsWidePeriod : Obligations.SweepRejectsWidePeriod :=
  fun _ hp => congrArg Host.Outcome.next (scanStart_of_le_period hp)

/-! ### The end of a transaction in a sweep (R154, R155, R158 to R161) -/

/-- What a register write leaves to its caller when it is over with status `st`: the STOP of a success, or the status of a
failure (R107, R130, R133). -/
def txnReturned (s : State) (t : Txn) (st : Byte) (ts : List Turn) : State :=
  { s with
    busTrace := s.busTrace ++ if st = t.ph.expected then [.stop] else []
    stat := if st = t.ph.expected then none else some st, script := ts }

theorem step_txnReturned {s : State} {t : Txn} {who : Caller} {st : Byte} {ts : List Turn} (h : PhaseDone s t who st ts)
    (ho : TxnOver t st) :
    ∃ e : TxnEnd, e.ok = (st == t.ph.expected) ∧ step s = .next ((txnReturned s t st ts).endTxn who e) := by
  have ⟨_, _, _, _, _, hst⟩ := h
  rw [step_txnOver h ho]
  by_cases he : st = t.ph.expected
  · refine ⟨{ ok := true, ph := 0, st := 0 }, (beq_iff_eq.mpr he).symm, ?_⟩
    simp only [txnReturned, he, if_true]
    rfl
  · refine ⟨{ ok := false, ph := t.ph.number, st := st }, (beq_eq_false_iff_ne.mpr he).symm, ?_⟩
    simp only [txnReturned, he, if_false, List.append_nil, ← hst]

/-- The events of a transaction's end and of the next one's START. -/
theorem txnReturned_busTrace_start (s : State) (t : Txn) (st : Byte) (ts : List Turn) :
    (txnReturned s t st ts).busTrace ++ [.start] =
      s.busTrace ++ if st = t.ph.expected then [.stop, .start] else [.start] := by
  unfold txnReturned
  split <;> simp

/-- Settles O39: the transaction returns to the Scan Engine, which goes on with the next place of the pass. -/
theorem sweepCountsFailure : Obligations.SweepCountsFailure := by
  intro s t se se' st ts hd ho hpos hbase hperiod hfails
  have ⟨_, _, _, _, hb, _⟩ := hd
  obtain ⟨e, he, hstep⟩ := step_txnReturned hd ho
  have hnext := (endScanWrite_place (u := txnReturned s t st ts) (e := e) hb hbase hperiod
    (by rw [he]; exact hfails)).1 hpos
  rw [hstep, ← txnReturned_busTrace_start s t st ts]
  refine congrArg Host.Outcome.next (hnext.trans ?_)
  by_cases hi : se'.i = se.i <;> simp only [hi, if_true, if_false, List.append_nil] <;> rfl

/-- Settles O40: the transaction returns to the Scan Engine, which tests the elapsed ticks after the last place of the
pass. -/
theorem sweepTestsAfterPass : Obligations.SweepTestsAfterPass := by
  intro s t se se' st e ts hd ho hi hr hch hhalf he hpos hbase hperiod hfails
  have ⟨_, _, _, _, hb, _⟩ := hd
  obtain ⟨r, hok, hstep⟩ := step_txnReturned hd ho
  have hlast : scanPos se = 485 := by simp [scanPos, hi, hr, hch, hhalf]
  have helapsed : elapsed s.cfg.tbWidth s.cnt se.base = e := by rw [elapsed, ← he, Int.toNat_natCast]
  have htest := (endScanWrite_place (u := txnReturned s t st ts) (e := r) hb hbase hperiod
    (by rw [hok]; exact hfails)).2 hlast
  rw [hstep]
  refine ⟨fun hle => ?_, fun hlt => ?_⟩
  · have hexit := scanTest_of_le (s := txnReturned s t st ts) (se := { se with fails := se'.fails })
      (hle.trans_eq helapsed.symm)
    exact congrArg Host.Outcome.next (htest.trans hexit)
  · have hfirst : Scan.first { se with fails := se'.fails } = se' :=
      scan_ext (y := se') (by rw [hpos]; rfl) hbase.symm hperiod.symm rfl
    have hpass := (scanTest_of_lt (s := txnReturned s t st ts) (se := { se with fails := se'.fails })
      (helapsed.trans_lt hlt)).trans (scanPass_of_enabled (s := txnReturned s t st ts) hb _)
    rw [hfirst] at hpass
    rw [← txnReturned_busTrace_start s t st ts, List.append_cons s.outTrace]
    exact congrArg Host.Outcome.next (htest.trans hpass)

/-- The failure count after a transaction (R158). -/
theorem countedFails_toNat (ok : Bool) (fails : Word) :
    (if ok then fails else countFail fails).toNat = failsAfter (!ok) fails := by
  cases ok with
  | true => rfl
  | false => exact countFail_toNat fails

/-- A register write that leads to IDLE at a completed phase is over there and returns to its caller, after the STOP if it
succeeded (R130, R133). -/
theorem checkPhase_idle {s : State} {t : Txn} {who : Caller} {back : TxnEnd → State → State} (hc : s.ctl ≠ .idle)
    (hi : (s.checkPhase t who back).ctl = .idle) :
    TxnOver t s.readStat.1 ∧ ∃ (u : State) (e : TxnEnd), s.checkPhase t who back = back e u ∧
      e.ok = (s.readStat.1 == t.ph.expected) ∧ u.cfg = s.cfg ∧ u.cnt = s.cnt ∧ u.ctl = s.ctl := by
  have hframe := readStat_frame s
  have hc' : s.readStat.2.ctl ≠ .idle := by rwa [hframe]
  obtain ⟨hne, h⟩ | ⟨heq, ⟨-, h⟩ | ⟨-, h⟩ | ⟨-, h⟩ | ⟨hp, h⟩⟩ := checkPhase_cases s t who back
  · exact ⟨.inl hne, _, _, h, (beq_eq_false_iff_ne.mpr hne).symm, by rw [hframe], by rw [hframe], by rw [hframe]⟩
  · exact absurd (h ▸ hi) (busPhase_ctl_ne_idle hc' _ _ _)
  · exact absurd (h ▸ hi) (busPhase_ctl_ne_idle hc' _ _ _)
  · exact absurd (h ▸ hi) (busPhase_ctl_ne_idle hc' _ _ _)
  · obtain hstop | hraise := busStop_cases s.readStat.2 (back { ok := true, ph := 0, st := 0 })
    · refine ⟨.inr hp, _, _, h.trans hstop, (beq_iff_eq.mpr heq).symm, ?_⟩
      rw [hframe]
      exact ⟨rfl, rfl, rfl⟩
    · rw [h, hraise, State.raise_ctl] at hi
      exact absurd hi hc'

/-- Settles O41: of a sweep's steps only the Controller's, where a transaction is over, can lead to IDLE, and there only
the exit after a pass does. -/
theorem sweepEndsOnlyAfterPeriod : Obligations.SweepEndsOnlyAfterPeriod := by
  intro s s' t se hc hs hpo hi
  have hc' : s.nextTurn.2.ctl = .waitBus (.txn t (.sweep se)) := (State.nextTurn_ctl s).trans hc
  have hne : s.nextTurn.2.ctl ≠ .idle := hc' ▸ Ctl.noConfusion
  obtain ⟨hp, -⟩ | ⟨-, hctl⟩ | ⟨-, -, henv⟩ := step_cases hs
  · exact absurd hp hpo
  · obtain rfl | ⟨-, hst, -⟩ | ⟨-, hst, -⟩ | ⟨-, w, hw, -, rfl⟩ := controllerStep_cases hctl
    · exact absurd hi hne
    · cases hc'.symm.trans hst
    · cases hc'.symm.trans hst
    · cases hc'.symm.trans hw
      obtain ⟨hover, u, e, hback, hok, hcfg, hcnt, hu⟩ := checkPhase_idle hne hi
      have hres : s.nextTurn.2.resume (.txn t (.sweep se)) = u.endScanWrite se e := hback
      rw [hres] at hi ⊢
      obtain ⟨hlast, hle, hexit⟩ := endScanWrite_idle (hu ▸ hne) hi
      rw [hcfg, hcnt, nextTurn_frame] at hle
      rw [hexit]
      refine ⟨hlast, hle, rfl, rfl, rfl, rfl, rfl, fun st hst => ?_⟩
      have hread := readStat_of_some (s := s.nextTurn.2) (v := st) (by rwa [nextTurn_frame])
      rw [hread] at hover hok
      refine ⟨hover, ?_⟩
      rw [State.scanExit, State.respond_result, countedFails_toNat, hok]
      rfl
  · exact absurd hi (henv.ctl_ne_idle hne)

end Sys2Proof.Safety
end

section
/-! SUPPORT. The run of a pass whose transactions all succeed (42_scan_engine.md): the run of one successful register write,
the place of each write and column in the pass, and the induction over the places left. -/

namespace Sys2Proof.Safety

open Sys2Proof.Machine

/-! ### The run of one successful register write (R130) -/

/-- A successful register write back at its caller: its five events are emitted and nothing is pending. -/
def written (s : State) (t : Txn) (who : Caller) (ts : List Turn) : State :=
  { s with
    busTrace := s.busTrace ++ writeEvents t.addr t.reg t.val, stat := none, bdPend := .none
    ctl := .waitBus (.txn { t with ph := .data } who), script := ts }

/-- From the wait for START the four expected statuses take eight steps to the return of a success. -/
theorem run_inWrite_written {n : Nat} {s : State} {t : Txn} {who : Caller} {st : Option Byte} {ts : List Turn}
    (hf : s.fault = none) (hb : s.bdEn = true) (hm : MaskKeepsCodes s) (hp : t.ph = .start) :
    Host.Core.run core (n + 8) (inWrite s t who st (goodTurns ++ ts)) =
      Host.Core.run core n ((written s t who ts).endTxn who { ok := true, ph := 0, st := 0 }) := by
  obtain ⟨h08, h18, h28⟩ := hm
  have toAddress := run_inWrite_next (n := n + 6) (who := who) (st := st) (rx := 0)
    (ts := phaseTurns [0x18, 0x28, 0x28] ++ ts) hf hb hp h08 rfl
  have toRegister := run_inWrite_next (n := n + 4) (t := { t with ph := .address }) (who := who)
    (st := some (0x08#8 &&& s.cfg.statusMask)) (rx := 0) (ts := phaseTurns [0x28, 0x28] ++ ts) hf hb rfl h18 rfl
  have toData := run_inWrite_next (n := n + 2) (t := { t with ph := .register }) (who := who)
    (st := some (0x18#8 &&& s.cfg.statusMask)) (rx := 0) (ts := phaseTurns [0x28] ++ ts) hf hb rfl h28 rfl
  refine toAddress.trans (toRegister.trans (toData.trans ?_))
  refine (run_succ (step_inWrite hf)).trans ((run_succ
    (step_phaseDone_stop (phaseDone_inWriteDone hf hb) rfl h28)).trans ?_)
  have hev : writeEvents t.addr t.reg t.val = (writeEvents t.addr t.reg t.val).take 4 ++ [.stop] := rfl
  simp only [written]
  rw [hev, ← List.append_assoc]
  rfl

/-! ### The place of a write and of a column in the pass (R150, R154, R155) -/

/-- In a list of blocks of one length, an element is found by its block and its place there. -/
theorem getElem?_flatMap_of_length {α β : Type} {f : α → List β} {m : Nat} (hf : ∀ a, (f a).length = m) {j : Nat}
    (hj : j < m) (l : List α) (i : Nat) : (l.flatMap f)[i * m + j]? = l[i]?.bind fun a => (f a)[j]? := by
  induction l generalizing i with
  | nil => rfl
  | cons a l ih =>
    rw [List.flatMap_cons]
    cases i with
    | zero => rw [Nat.zero_mul, Nat.zero_add, List.getElem?_append_left (by rwa [hf])]; rfl
    | succ i =>
      have hidx : (i + 1) * m + j - m = i * m + j := by rw [Nat.succ_mul]; omega
      rw [List.getElem?_append_right (by rw [hf, Nat.succ_mul]; omega), hf, hidx, ih]
      rfl

theorem columnWrites_length (s : State) (i : Fin 9) : (columnWrites s i).length = 54 := by
  simp [columnWrites]

theorem passWrites_length (s : State) : (passWrites s).length = 486 := by
  simp [passWrites, columnWrites_length]

/-- Such a list of blocks numbered by `Fin n`. -/
theorem getElem?_finRange_flatMap {β : Type} {n m : Nat} {f : Fin n → List β} (hf : ∀ i, (f i).length = m) {j : Nat}
    (hj : j < m) (i : Fin n) : ((List.finRange n).flatMap f)[i.val * m + j]? = (f i)[j]? := by
  rw [getElem?_flatMap_of_length hf hj, List.getElem?_eq_getElem (by simp), List.getElem_finRange]
  rfl

/-- The write at a place of the pass, found by column, row, channel and half. -/
theorem passWrites_scanPos (s : State) (se : Scan) :
    (passWrites s)[scanPos se]? = some (s.scanWrite se.i se.r se.ch se.half) := by
  obtain ⟨base, period, i, r, ch, half, fails⟩ := se
  obtain ⟨j, hj, hpos, hwrite⟩ : ∃ j < 2,
      scanPos ⟨base, period, i, r, ch, half, fails⟩ = i.val * 54 + (r.val * 6 + (ch.val * 2 + j)) ∧
      [s.scanWrite i r ch .low, s.scanWrite i r ch .high][j]? = some (s.scanWrite i r ch half) := by
    cases half with
    | low => exact ⟨0, by decide, by simp only [scanPos]; omega, rfl⟩
    | high => exact ⟨1, by decide, by simp only [scanPos]; omega, rfl⟩
  rw [hpos, passWrites, getElem?_finRange_flatMap (columnWrites_length s) (by omega), columnWrites,
    getElem?_finRange_flatMap (m := 6) (fun _ => by simp) (by omega),
    getElem?_finRange_flatMap (m := 2) (fun _ => rfl) hj, hwrite]

/-- The events of the transaction at a place. -/
def placeEvents (s : State) (se : Scan) : List BusEvent :=
  writeEvents (scanTxnAt s se).addr (scanTxnAt s se).reg (scanTxnAt s se).val

/-- The bus events of a pass from its place number `k` on. -/
def busEventsFrom (s : State) (k : Nat) : List BusEvent :=
  ((passWrites s).drop k).flatMap fun w => writeEvents w.1 w.2.1 w.2.2

theorem busEventsFrom_scanPos (s : State) (se : Scan) :
    busEventsFrom s (scanPos se) = placeEvents s se ++ busEventsFrom s (scanPos se + 1) := by
  rw [busEventsFrom, List.drop_eq_getElem?_toList_append, passWrites_scanPos]
  rfl

theorem busEventsFrom_end (s : State) : busEventsFrom s 486 = [] := by
  rw [busEventsFrom, List.drop_eq_nil_of_le (passWrites_length s).le]
  rfl

/-- The column selects of a pass from its column number `k` on. -/
def selectsFrom (s : State) (k : Nat) : List OutEvent :=
  ((List.finRange 9).map fun i => .en (oneHot s.cfg.colOrder[i])).drop k

theorem selectsFrom_column (s : State) (i : Fin 9) :
    selectsFrom s i.val = .en (oneHot s.cfg.colOrder[i]) :: selectsFrom s (i.val + 1) := by
  rw [selectsFrom, List.drop_eq_getElem_cons (by simp)]
  simp [selectsFrom]

theorem selectsFrom_end (s : State) : selectsFrom s 9 = [] :=
  List.drop_eq_nil_of_le (by simp)

/-! ### The run through the places of a pass (R150, R160, R163) -/

/-- What a successful transaction at `se` and the step to the place `se'` leave of `s`: the transaction's events, and the
next column lit if the column is done (R154, R155). -/
def pastPlace (s : State) (se se' : Scan) : State :=
  { s with
    busTrace := s.busTrace ++ placeEvents s se
    en := if se'.i = se.i then s.en else oneHot s.cfg.colOrder[se'.i]
    outTrace := s.outTrace ++ if se'.i = se.i then [] else [.en (oneHot s.cfg.colOrder[se'.i])] }

/-- What a sweep of period 0 leaves that stands in `s` before its transaction at `se`, if every transaction from there on
succeeds (R160, R162). -/
def passOver (s : State) (se : Scan) (ts : List Turn) : State :=
  { s with
    busTrace := s.busTrace ++ busEventsFrom s (scanPos se)
    outTrace := s.outTrace ++ selectsFrom s (se.i.val + 1) ++ [.en 0]
    en := 0, tbRun := false, cnt := 0, stat := none, bdPend := .none
    result := se.fails, resp := .ok, busy := false, ctl := .idle, script := ts }

/-- Consecutive places are in one column or in consecutive ones. -/
theorem column_of_scanPos_succ {se se' : Scan} (hpos : scanPos se' = scanPos se + 1) :
    se'.i = se.i ∨ (se'.i ≠ se.i ∧ se'.i.val = se.i.val + 1) := by
  obtain ⟨base, period, i, r, ch, half, fails⟩ := se
  obtain ⟨base', period', i', r', ch', half', fails'⟩ := se'
  cases half <;> cases half' <;> simp only [scanPos] at hpos ⊢ <;> omega

theorem passOver_pastPlace {s : State} {se se' : Scan} (hpos : scanPos se' = scanPos se + 1)
    (hfails : se'.fails = se.fails) (ts : List Turn) : passOver (pastPlace s se se') se' ts = passOver s se ts := by
  have hbus : (pastPlace s se se').busTrace ++ busEventsFrom (pastPlace s se se') (scanPos se') =
      s.busTrace ++ busEventsFrom s (scanPos se) := by
    rw [busEventsFrom_scanPos s, ← hpos]
    exact List.append_assoc _ _ _
  have hout : (pastPlace s se se').outTrace ++ selectsFrom (pastPlace s se se') (se'.i.val + 1) =
      s.outTrace ++ selectsFrom s (se.i.val + 1) := by
    obtain hi | ⟨hi, hv⟩ := column_of_scanPos_succ hpos
    · simp only [pastPlace, hi, if_true, List.append_nil]
      rfl
    · rw [← hv, selectsFrom_column]
      simp only [pastPlace, hi, if_false, List.append_assoc]
      rfl
  simp only [passOver, hbus, hout, hfails]
  rfl

section
variable {n : Nat} {s : State} {se se' : Scan} {st : Option Byte} {ts : List Turn}

/-- A successful transaction that is not the last of its pass takes eight steps to the next (R155). -/
theorem run_place_next (hf : s.fault = none) (hb : s.bdEn = true) (hm : MaskKeepsCodes s)
    (hpos : scanPos se' = scanPos se + 1) (hbase : se'.base = se.base) (hperiod : se'.period = se.period)
    (hfails : se'.fails = se.fails) :
    Host.Core.run core (n + 8) (inWrite s (scanTxnAt s se) (.sweep se) st (goodTurns ++ ts)) =
      Host.Core.run core n (inWrite (pastPlace s se se') (scanTxnAt s se') (.sweep se') none ts) := by
  rw [run_inWrite_written hf hb hm rfl]
  have hnext := (endScanWrite_place (u := written s (scanTxnAt s se) (.sweep se) ts)
    (e := { ok := true, ph := 0, st := 0 }) hb hbase hperiod (congrArg BitVec.toNat hfails)).1 hpos
  refine congrArg (Host.Core.run core n) (hnext.trans ?_)
  by_cases hi : se'.i = se.i <;> simp only [inWrite, pastPlace, hi, if_true, if_false, List.append_nil] <;> rfl

/-- The successful last transaction of a pass ends a sweep of period 0 (R160, R162). -/
theorem run_place_last (hf : s.fault = none) (hb : s.bdEn = true) (hm : MaskKeepsCodes s) (hpos : scanPos se = 485)
    (hperiod : se.period = 0) :
    Host.Core.run core 8 (inWrite s (scanTxnAt s se) (.sweep se) st (goodTurns ++ ts)) = .next (passOver s se ts) := by
  have hi : se.i.val + 1 = 9 := by
    obtain ⟨base, period, i, r, ch, half, fails⟩ := se
    cases half <;> simp only [scanPos] at hpos ⊢ <;> omega
  refine (run_inWrite_written (n := 0) hf hb hm rfl).trans ?_
  have htest := (endScanWrite_place (u := written s (scanTxnAt s se) (.sweep se) ts)
    (e := { ok := true, ph := 0, st := 0 }) (se' := se) hb rfl rfl rfl).2 hpos
  have hexit := scanTest_of_le (s := written s (scanTxnAt s se) (.sweep se) ts) (hperiod.trans_le (Nat.zero_le _))
  refine congrArg Host.Outcome.next (htest.trans (hexit.trans ?_))
  rw [passOver, busEventsFrom_scanPos, hpos, busEventsFrom_end, hi, selectsFrom_end, List.append_nil, List.append_nil]
  rfl

/-- From any place of a pass on, successful transactions run a sweep of period 0 to its end. -/
theorem run_places (hf : s.fault = none) (hb : s.bdEn = true) (hm : MaskKeepsCodes s) (hpos : scanPos se + n = 485)
    (hperiod : se.period = 0) :
    Host.Core.run core (8 * (n + 1))
      (inWrite s (scanTxnAt s se) (.sweep se) st ((List.replicate (n + 1) goodTurns).flatten ++ ts)) =
      .next (passOver s se ts) := by
  induction n generalizing s se st with
  | zero => exact run_place_last hf hb hm hpos hperiod
  | succ n ih =>
    obtain ⟨se', hpos', hbase, hp, hfails⟩ : ∃ y : Scan, scanPos y = scanPos se + 1 ∧
        y.base = se.base ∧ y.period = se.period ∧ y.fails = se.fails := by
      obtain ⟨y, -, h1, -, h2⟩ | ⟨y, -, h1, -, h2⟩ | ⟨-, hend⟩ := next_cases se
      · exact ⟨y, h1, h2⟩
      · exact ⟨y, h1, h2⟩
      · omega
    rw [List.replicate_succ, List.flatten_cons, List.append_assoc, Nat.mul_succ,
      run_place_next hf hb hm hpos' hbase hp hfails, ← passOver_pastPlace hpos' hfails]
    exact ih (s := pastPlace s se se') hf hb hm (by omega) (hp.trans hperiod)

end

/-- SWEEP's first step leads to the wait for the first transaction's START (R151, R153, R154). -/
theorem run_sweepEntry {n : Nat} {s : State} {ts : List Turn} (hb : s.bdEn = true) (ht : s.tbCfg = true)
    (hp : s.arg.toNat < 2 ^ s.cfg.tbWidth) (hs : Starts s .sweep ts) :
    Host.Core.run core (n + 1) s =
      Host.Core.run core n (inWrite s.sweepEntry (scanTxnAt s s.entryScan) (.sweep s.entryScan) s.stat ts) := by
  obtain ⟨hf, hc, hcmd, hscript⟩ := hs
  refine run_succ ((step_placed hscript).trans ?_)
  refine (controllerStep_start (s := { s with script := ts }) hf hc (decode_of_encode hcmd.symm)).trans ?_
  exact congrArg Host.Outcome.next (scanStart_of_enabled (s := { s with script := ts }) hb ht hp)

/-- Settles O37: the entry, then the induction over the 486 places. -/
theorem sweepMakesOnePass : Obligations.SweepMakesOnePass := by
  intro s ts hb ht ha hm hs
  have hp : s.arg.toNat < 2 ^ s.cfg.tbWidth := by rw [ha]; exact Nat.two_pow_pos _
  have hout : s.sweepEntry.outTrace ++ selectsFrom s 1 = s.outTrace ++ passOutEvents s := by
    have hall : passOutEvents s = .hb (!s.hb) :: selectsFrom s (0 : Fin 9).val := rfl
    rw [hall, selectsFrom_column]
    simp [State.sweepEntry]
  rw [Nat.add_comm, run_sweepEntry hb ht hp hs, ← hout]
  exact run_places (n := 485) (s := s.sweepEntry) (se := s.entryScan) hs.1 hb hm rfl (by simp [State.entryScan, ha])

/-- Five events for each of the 486 transactions (R163). -/
theorem passBusEvents_length (s : State) : (passBusEvents s).length = 2430 := by
  have hfive : ∀ w ∈ passWrites s, (writeEvents w.1 w.2.1 w.2.2).length = 5 := fun _ _ => rfl
  rw [passBusEvents, List.length_flatMap, List.map_congr_left hfive, List.map_const', List.sum_replicate_nat,
    passWrites_length]

/-- An event that every successful transaction emits once comes 486 times in a pass (R163). -/
theorem passBusEvents_count (s : State) {e : BusEvent} (he : ∀ a g v, (writeEvents a g v).count e = 1) :
    (passBusEvents s).count e = 486 := by
  rw [passBusEvents, List.count_flatMap, List.map_congr_left fun w _ => he w.1 w.2.1 w.2.2, List.map_const',
    List.sum_replicate_nat, passWrites_length]

/-- Settles O38: the lengths and counts of what the run of O37 appends. -/
theorem passCounts : Obligations.PassCounts := by
  intro s ts hb ht ha hm hs
  refine ⟨_, passBusEvents s, (List.finRange 9).map fun i => oneHot s.cfg.colOrder[i],
    sweepMakesOnePass s ts hb ht ha hm hs, rfl, ?_, ?_, ?_, ?_, ?_⟩
  · exact passBusEvents_length s
  · exact passBusEvents_count s fun _ _ _ => rfl
  · exact passBusEvents_count s fun _ _ _ => rfl
  · simp [passOutEvents]
  · simp

end Sys2Proof.Safety
end

section
/-! SUPPORT. The Chip Initialization Sequencer (43_chip_init.md): the retry of a failed write, and the run through
`INIT_SEQ`, by induction over the writes left. -/

namespace Sys2Proof.Safety

open Sys2Proof.Machine

/-- Settles O31: CHIP_INIT's first step is its write at index 0, or the answer when `INIT_SEQ` has none. -/
theorem chipInitBegins : Obligations.ChipInitBegins := by
  refine fun s a => ⟨fun h => ?_, fun g v rest h hb => ?_⟩
  · exact congrArg Host.Outcome.next (initWrite_of_length_le (idx := 0) (by simp [h]) a)
  · exact congrArg Host.Outcome.next (initWrite_of_some (idx := 0) hb (by simp [h]) a)

/-- Settles O32: the mismatch returns a failure to CHIP_INIT, which begins its write at the same index again. -/
theorem chipInitRetriesAtOnce : Obligations.ChipInitRetriesAtOnce := by
  intro s t a idx g v st ts hf hscript hc hp hb hst hne hi
  have hback := step_txnOver ⟨hf, hscript, hc, hp, hb, hst⟩ (.inl hne)
  rw [if_neg hne] at hback
  exact hback.trans (congrArg Host.Outcome.next (initWrite_of_some (s := { s with script := ts }) hb hi a))

/-! ### The run through `INIT_SEQ` (R180, R182) -/

/-- What CHIP_INIT leaves of `s` once its writes `ws` to chip `a`, the last of `INIT_SEQ`, have all succeeded. -/
def initOver (s : State) (a : ChipAddr) (ws : List (Byte × Byte)) (ts : List Turn) : State :=
  { s with
    busTrace := s.busTrace ++ ws.flatMap fun w => writeEvents a w.1 w.2
    stat := if ws = [] then s.stat else none
    bdPend := if ws = [] then s.bdPend else .none
    result := 0, resp := .ok, busy := false, ctl := .idle, script := ts }

section
variable {s : State} {a : ChipAddr} {ts : List Turn}

/-- One write made, and then the others, are all of them. -/
theorem initOver_written (g v : Byte) (ws : List (Byte × Byte)) (who : Caller) (ts' : List Turn) :
    initOver (written s { addr := a, reg := g, val := v, ph := .start } who ts') a ws ts =
      initOver s a ((g, v) :: ws) ts := by
  simp [initOver, written]

/-- The writes of `INIT_SEQ` from an index on, when each reports the expected statuses, run CHIP_INIT to its answer. -/
theorem run_initWrites {idx : Nat} {ws : List (Byte × Byte)} (hf : s.fault = none) (hb : s.bdEn = true)
    (hm : MaskKeepsCodes s) (hws : s.cfg.initSeq.drop idx = ws)
    (hscript : s.script = (ws.flatMap fun _ => goodTurns) ++ ts) :
    Host.Core.run core (8 * ws.length) (s.initWrite a idx) = .next (initOver s a ws ts) := by
  induction ws generalizing s idx with
  | nil =>
    obtain rfl : s.script = ts := hscript
    rw [initWrite_of_length_le (List.drop_eq_nil_iff.mp hws)]
    simp [Host.Core.run, initOver, State.respond]
  | cons w ws ih =>
    obtain ⟨g, v⟩ := w
    have hi : s.cfg.initSeq[idx]? = some (g, v) := by
      rw [← Nat.add_zero idx, ← List.getElem?_drop, hws, List.getElem?_cons_zero]
    have hrest : s.cfg.initSeq.drop (idx + 1) = ws := by rw [← List.tail_drop, hws, List.tail_cons]
    have hstart : s.initWrite a idx = inWrite s { addr := a, reg := g, val := v, ph := .start } (.chipInit a idx)
        s.stat (goodTurns ++ ((ws.flatMap fun _ => goodTurns) ++ ts)) := by
      rw [initWrite_of_some hb hi, ← List.append_assoc, ← List.flatMap_cons (f := fun _ => goodTurns), ← hscript]
      rfl
    rw [hstart, List.length_cons, Nat.mul_succ, run_inWrite_written hf hb hm rfl,
      ← initOver_written g v ws (.chipInit a idx) ((ws.flatMap fun _ => goodTurns) ++ ts)]
    exact ih (s := written s _ (.chipInit a idx) _) hf hb hm hrest rfl

end

/-- Settles O33: the first step begins the writes of `INIT_SEQ` at index 0, which then all run. -/
theorem chipInitWritesSequence : Obligations.ChipInitWritesSequence := by
  intro s a ts hb hm ⟨hf, hc, hcmd, hscript⟩
  have hfirst := (step_placed hscript).trans (controllerStep_start hf hc (decode_of_encode hcmd.symm))
  rw [Nat.add_comm, run_succ hfirst]
  exact run_initWrites (s := { s with script := _ }) hf hb hm rfl rfl

end Sys2Proof.Safety
end

section
/-! SUPPORT. The Time Base (44_time_base.md): the Tick agent's step, its commands, and every write of `CNT`. -/

namespace Sys2Proof.Machine

@[simp] theorem State.nextTurn_tbCfg (s : State) : s.nextTurn.2.tbCfg = s.tbCfg := by rw [nextTurn_frame]
@[simp] theorem State.nextTurn_tbRun (s : State) : s.nextTurn.2.tbRun = s.tbRun := by rw [nextTurn_frame]
@[simp] theorem State.nextTurn_cnt (s : State) : s.nextTurn.2.cnt = s.cnt := by rw [nextTurn_frame]

/-! ### The Tick agent's step (R190) -/

section
variable {s : State}

theorem tickStep_of_running (hc : s.tbCfg = true) (hr : s.tbRun = true) : s.tickStep = s.countTick :=
  if_pos ⟨hc, hr⟩

theorem tickStep_hold (h : s.tbCfg = false ∨ s.tbRun = false) : s.tickStep = s :=
  if_neg fun ⟨hc, hr⟩ => by simp [hc, hr] at h

/-- A tick counts on a Time Base that is configured and runs, and holds otherwise. -/
theorem tickStep_cases (s : State) :
    (s.tbCfg = true ∧ s.tbRun = true ∧ s.tickStep = s.countTick) ∨ s.tickStep = s := by
  unfold State.tickStep
  split
  · next h => exact .inl ⟨h.1, h.2, rfl⟩
  · exact .inr rfl

/-- A tick that raises `CNT` raises it by one. -/
theorem countTick_cnt_of_lt (h : s.cnt < s.countTick.cnt) : s.countTick.cnt = s.cnt + 1 :=
  Nat.le_antisymm (Nat.mod_le _ _) h

/-- A tick lowers `CNT` only at the end of its range. -/
theorem le_succ_cnt_of_countTick_lt (h : s.countTick.cnt < s.cnt) : 2 ^ s.cfg.tbWidth ≤ s.cnt + 1 := by
  by_contra hlt
  rw [State.countTick_cnt, Nat.mod_eq_of_lt (Nat.lt_of_not_le hlt)] at h
  omega

end

/-! ### The turns of the Host and the BusPeer leave `CNT` (R198) -/

theorem hostAccess_cnt (s : State) (a : HostAccess) : (s.hostAccess a).cnt = s.cnt := by
  obtain ⟨d, n, h | ⟨k, -, h⟩ | ⟨-, -, ⟨w, h⟩ | ⟨w, h⟩⟩⟩ := hostAccess_cases s a <;> rw [h]

theorem hostProgramStep_cnt (s : State) : s.hostProgramStep.cnt = s.cnt := by
  obtain h | ⟨p, a, h⟩ := hostProgramStep_cases s <;> rw [h]
  exact hostAccess_cnt _ a

theorem busPeerStep_cnt (s : State) (raw rx : Byte) : (s.busPeerStep raw rx).cnt = s.cnt := by
  unfold State.busPeerStep
  split
  · exact s.completePhase_cnt raw rx
  · rfl

/-! ### The Controller clears `CNT` at TB_CLEAR and at a sweep's exit (R160, R195, R198) -/

/-- `t` is `s` with `CNT` kept, or the end of a command that cleared it. -/
def CntKeptOrCleared (s t : State) : Prop := t.cnt = s.cnt ∨ (t.cnt = 0 ∧ t.ctl = .idle)

theorem busPhase_cnt (s : State) (e : BusEvent) (p : Pend) (w : Wait) : (s.busPhase e p w).cnt = s.cnt := by
  rw [busPhase_frame]

/-- The loop test goes on with `CNT` as it is, or exits and clears it (R159, R160). -/
theorem scanTest_cnt (s : State) (se : Scan) : CntKeptOrCleared s (s.scanTest se) := by
  by_cases h : elapsed s.cfg.tbWidth s.cnt se.base < se.period
  · rw [scanTest_of_lt h, scanPass_frame]
    exact .inl rfl
  · rw [scanTest_of_le (Nat.le_of_not_lt h)]
    exact .inr ⟨rfl, rfl⟩

theorem endScanWrite_cnt (s : State) (se : Scan) (e : TxnEnd) : CntKeptOrCleared s (s.endScanWrite se e) := by
  obtain ⟨x, -, -, ⟨y, -, h⟩ | ⟨y, -, h⟩ | ⟨-, h⟩⟩ := endScanWrite_cases s se e <;> rw [h]
  · exact .inl (busPhase_cnt s _ _ _)
  · exact .inl (busPhase_cnt (s.setEn _) _ _ _)
  · exact scanTest_cnt s x

/-- A completed phase of a register write keeps `CNT` or does with it what the caller does (R130). -/
theorem checkPhase_cnt {back : TxnEnd → State → State} (hback : ∀ e u, CntKeptOrCleared u (back e u)) (s : State)
    (t : Txn) (who : Caller) : CntKeptOrCleared s (s.checkPhase t who back) := by
  have hread : s.readStat.2.cnt = s.cnt := by rw [readStat_frame]
  obtain ⟨-, h⟩ | ⟨-, ⟨-, h⟩ | ⟨-, h⟩ | ⟨-, h⟩ | ⟨-, h⟩⟩ := checkPhase_cases s t who back <;>
    rw [h, CntKeptOrCleared, ← hread]
  · exact hback _ _
  · exact .inl (busPhase_cnt _ _ _ _)
  · exact .inl (busPhase_cnt _ _ _ _)
  · exact .inl (busPhase_cnt _ _ _ _)
  · obtain hstop | hraise := busStop_cases s.readStat.2 (back { ok := true, ph := 0, st := 0 })
    · rw [hstop]
      exact hback _ s.readStat.2.issueStop
    · rw [hraise]
      exact .inl (State.raise_cnt _ _)

/-- Outside a sweep the Controller goes on from a wait with `CNT` as it is, and in one it may clear it at the exit. -/
theorem resume_cnt (s : State) (w : Wait) :
    (s.resume w).cnt = s.cnt ∨
      ((s.resume w).cnt = 0 ∧ (∃ se, Safety.scanOf (.waitBus w) = some se) ∧ (s.resume w).ctl = .idle) := by
  have hquiet (hw : w.scans = false) : (s.resume w).cnt = s.cnt := by
    have hends := resume_ends s w
    rw [hw] at hends
    obtain ⟨-, -, -, -, hcnt⟩ := hends.quiet
    exact hcnt
  cases w with
  | respondZero | respondByte => exact .inl (hquiet rfl)
  | txn t who =>
    cases who with
    | writeReg | chipInit => exact .inl (hquiet rfl)
    | sweep se =>
      exact (checkPhase_cnt (fun e u => endScanWrite_cnt u se e) s t (.sweep se)).imp_right
        fun ⟨hzero, hidle⟩ => ⟨hzero, ⟨se, rfl⟩, hidle⟩

end Sys2Proof.Machine

namespace Sys2Proof.Safety

open Sys2Proof.Machine

/-- The first step of a command keeps `CNT`, or is TB_CLEAR's, which clears it (R195). -/
theorem exec_cnt {i : Instr} {s t : State} (hx : exec i s = .next t) : t.cnt = s.cnt ∨ (t.cnt = 0 ∧ i = .tbClear) := by
  by_cases hi : i = .tbClear
  · subst hi
    cases hx
    exact .inr ⟨rfl, rfl⟩
  · obtain ⟨-, -, -, -, hcnt, -⟩ := execFrame i s t hx
    exact .inl (hcnt hi)

/-- Everything the Controller's turn can do to `CNT`: nothing, or a clear at TB_CLEAR or at a sweep's exit. -/
theorem controllerStep_cnt {s s' : State} (h : s.controllerStep = .next s') :
    s'.cnt = s.cnt ∨
      (s'.cnt = 0 ∧ s.ctl = .start ∧ decode s.cmd = .ok .tbClear) ∨
      (s'.cnt = 0 ∧ (∃ se, scanOf s.ctl = some se) ∧ s'.ctl = .idle) := by
  obtain rfl | ⟨-, hc, i, hd, hx⟩ | ⟨-, -, -, rfl⟩ | ⟨-, w, hc, -, rfl⟩ := controllerStep_cases h
  · exact .inl rfl
  · exact (exec_cnt hx).imp_right fun ⟨hzero, hi⟩ => .inl ⟨hzero, hc, hi ▸ hd⟩
  · exact .inl (s.respond_cnt _ _)
  · rw [hc]
    exact (resume_cnt s w).imp_right .inr

/-- Everything a step can do to `CNT`: nothing, a tick's count, the Controller's clear, or power-on's (R198). -/
theorem step_cnt {s s' : State} (h : step s = .next s') :
    s'.cnt = s.cnt ∨
      (s.nextTurn.1 = .tick ∧ s.tbCfg = true ∧ s.tbRun = true ∧ s'.cnt = s.countTick.cnt) ∨
      (s'.cnt = 0 ∧ s.nextTurn.1 = .controller ∧ s.ctl = .start ∧ decode s.cmd = .ok .tbClear) ∨
      (s'.cnt = 0 ∧ s.nextTurn.1 = .controller ∧ (∃ se, scanOf s.ctl = some se) ∧ s'.ctl = .idle) ∨
      (s'.cnt = 0 ∧ s.nextTurn.1 = .powerOn) := by
  unfold step at h
  cases ht : s.nextTurn.1 <;> rw [ht] at h
  case controller =>
    obtain hcnt | ⟨hzero, hclear⟩ | ⟨hzero, hexit⟩ := controllerStep_cnt h
    · exact .inl (by simpa using hcnt)
    · exact .inr (.inr (.inl ⟨hzero, rfl, by simpa using hclear⟩))
    · exact .inr (.inr (.inr (.inl ⟨hzero, rfl, by simpa using hexit⟩)))
  all_goals cases h
  case host a => exact .inl (by simp [hostAccess_cnt])
  case hostProgram => exact .inl (by simp [hostProgramStep_cnt])
  case busPeer raw rx => exact .inl (by simp [busPeerStep_cnt])
  case tick =>
    obtain ⟨hc, hr, hcount⟩ | hhold := tickStep_cases s.nextTurn.2
    · exact .inr (.inl ⟨rfl, by simpa using hc, by simpa using hr, by simp [hcount]⟩)
    · exact .inl (by simp [hhold])
  case powerOn => exact .inr (.inr (.inr (.inr ⟨rfl, rfl⟩)))

/-- Settles O19: of what `step_cnt` lists only a tick can raise `CNT`, and a tick lowers it only at the wrap. -/
theorem counterChangesOnly : Obligations.CounterChangesOnly := by
  intro s s' hs
  refine ⟨fun hup => ?_, fun hdown => ?_⟩
  · obtain hsame | ⟨ht, hc, hr, hcount⟩ | ⟨hzero, -⟩ | ⟨hzero, -⟩ | ⟨hzero, -⟩ := step_cnt hs
    · omega
    · rw [hcount] at hup ⊢
      exact ⟨ht, hc, hr, countTick_cnt_of_lt hup⟩
    all_goals omega
  · obtain hsame | ⟨ht, hc, hr, hcount⟩ | hclear := step_cnt hs
    · omega
    · rw [hcount] at hdown
      exact .inl ⟨ht, hc, hr, le_succ_cnt_of_countTick_lt hdown⟩
    · exact .inr hclear

/-- Settles O18: a placed tick is the Tick agent's step, and at the end of the range `CNT + 1` is the modulus. -/
theorem tickCounts : Obligations.TickCounts := by
  intro s ts hs
  have hrun : s.tbCfg = true → s.tbRun = true →
      step s = .next { s with cnt := (s.cnt + 1) % 2 ^ s.cfg.tbWidth, script := ts } := fun hc hr => by
    rw [step_placed hs]
    exact congrArg Host.Outcome.next (tickStep_of_running (s := { s with script := ts }) hc hr)
  refine ⟨hrun, fun hc hr hlast => ?_, fun hoff => ?_⟩
  · have hwrap : (s.cnt + 1) % 2 ^ s.cfg.tbWidth = 0 := by
      rw [hlast, Nat.sub_add_cancel Nat.one_le_two_pow, Nat.mod_self]
    rw [hrun hc hr, hwrap]
  · rw [step_placed hs]
    exact congrArg Host.Outcome.next (tickStep_hold (s := { s with script := ts }) hoff)

/-- Settles O44: each command is its update and `respond`, TB_START tests `TB_CFG`, and a `CNT` below `2^32` is the word
TB_READ answers. -/
theorem timeBaseCommands : Obligations.TimeBaseCommands := by
  refine ⟨⟨rfl, rfl, rfl, rfl, rfl⟩, fun s => ⟨rfl, fun hc => ?_, fun hc hf => ?_, rfl, rfl, fun hlt => ?_⟩⟩
  · exact congrArg Host.Outcome.next (if_pos hc)
  · exact congrArg Host.Outcome.next ((if_neg (Bool.eq_false_iff.mp hc)).trans (raise_of_unfaulted hf _))
  · exact ⟨BitVec.ofNat 32 s.cnt, (BitVec.toNat_ofNat ..).trans (Nat.mod_eq_of_lt hlt), rfl⟩

end Sys2Proof.Safety
end

section
/-! SUPPORT. The Brightness Buffer (45_brightness_buffer.md): the check on ARG and the cells its commands name, what
each command does on a valid and on a rejected input, and the quantization as rational rounding. -/

namespace Sys2Proof.Machine

/-! ### The inputs of the commands (R85, R86, R214) -/

theorem normalizedOk_eq_false_iff {arg : Word} : normalizedOk arg = false ↔ arg.toInt < 0 ∨ 65536 < arg.toInt := by
  rw [normalizedOk, decide_eq_false_iff_not, normalized]
  omega

/-- A normalized value that is not negative is ARG itself. -/
theorem normalized_toNat {arg : Word} (h : 0 ≤ arg.toInt) : (normalized arg).toNat = arg.toNat := by
  simp only [normalized, BitVec.toInt_eq_toNat_cond] at h ⊢
  split at h <;> omega

theorem cellOf_of_le {r c : BitVec 4} {h : BitVec 2} (hr : r ≤ 8) (hc : c ≤ 8) (hh : h ≤ 2) :
    ∃ k, cellOf r c h = some k := by
  refine Option.ne_none_iff_exists'.mp fun hn => ?_
  obtain hlt | hlt | hlt := cellOf_eq_none.mp hn
  · exact BitVec.not_lt.mpr hr hlt
  · exact BitVec.not_lt.mpr hc hlt
  · exact BitVec.not_lt.mpr hh hlt

/-! ### What the commands do (R211, R214, R215) -/

section
variable {r c : BitVec 4} {h : BitVec 2} {s : State}

theorem exec_bufSetBrightness_of_valid {k : Fin 243} (hk : cellOf r c h = some k) (hv : normalizedOk s.arg = true) :
    exec (.bufSetBrightness r c h) s = .next ((s.writeCell k s.dutyOfArg).respond .ok (s.dutyOfArg.setWidth 32)) := by
  simp [exec, execBufSetBrightness, hk, hv]

theorem exec_bufSetBrightness_of_invalid (hi : cellOf r c h = none ∨ normalizedOk s.arg = false) :
    exec (.bufSetBrightness r c h) s = .next (s.respond .inputError 0) := by
  obtain hk | hv := hi
  · simp [exec, execBufSetBrightness, hk]
  · cases hk : cellOf r c h <;> simp [exec, execBufSetBrightness, hk, hv]

theorem exec_bufRead_of_some {k : Fin 243} (hk : cellOf r c h = some k) :
    exec (.bufRead r c h) s = .next (s.respond .ok (s.buf[k].setWidth 32)) := by
  simp [exec, execBufRead, hk]

theorem exec_bufRead_of_none (hk : cellOf r c h = none) :
    exec (.bufRead r c h) s = .next (s.respond .inputError 0) := by
  simp [exec, execBufRead, hk]

end

/-- A response leaves every cell (R24). -/
@[simp] theorem State.respond_cell (s : State) (code : Resp) (result : Word) (ch : Fin 3) (r c : Fin 9) :
    (s.respond code result).cell ch r c = s.cell ch r c := rfl

/-- Every cell of a cleared Buffer is 0 (R210). -/
theorem clearBuf_getElem (s : State) (k : Fin 243) : s.clearBuf.buf[k] = 0 := by
  simp

/-- A duty value keeps its number in RESULT. -/
theorem setWidth_duty_toNat (d : Duty) : (d.setWidth 32).toNat = d.toNat :=
  BitVec.toNat_setWidth_of_le (by decide)

/-- On a value that is not negative the stored duty is `Q` of ARG and SCALE (R212). -/
theorem dutyOfArg_toNat {s : State} (h : 0 ≤ s.arg.toInt) :
    s.dutyOfArg.toNat = quantize s.arg.toNat s.scale.toNat := by
  rw [State.dutyOfArg, quantize_toNat, normalized_toNat h]

/-! ### The quantization (R212, R213) -/

/-- Rounding half up over the rationals is the integer division of R212. -/
theorem floor_eq_div (v s : Nat) :
    ⌊(4095 : ℚ) * ((v : ℚ) / 65536) * ((s : ℚ) / 65536) + 1 / 2⌋ =
      (((4095 * v * s + 2 ^ 31) / 2 ^ 32 : Nat) : Int) := by
  have hfrac : (4095 : ℚ) * ((v : ℚ) / 65536) * ((s : ℚ) / 65536) + 1 / 2 =
      ((4095 * v * s + 2 ^ 31 : Nat) : ℚ) / ((2 ^ 32 : Nat) : ℚ) := by
    push_cast
    ring
  rw [hfrac, Rat.floor_natCast_div_natCast]
  exact (Int.natCast_div _ _).symm

theorem quantize_eq_floor (v s : Nat) : (quantize v s : Int) =
    min 4095 (max 0 ⌊(4095 : ℚ) * ((v : ℚ) / 65536) * ((s : ℚ) / 65536) + 1 / 2⌋) := by
  rw [floor_eq_div, max_eq_right (Int.natCast_nonneg _), quantize, Nat.cast_min]
  rfl

/-- For a value that is not negative the integer formula is `Q` on the exact rationals (R11). -/
theorem quantize_eq_quantizeExact {arg : Word} (h : 0 ≤ arg.toInt) (scale : Word) :
    (quantize arg.toNat scale.toNat : Int) = quantizeExact (normalizedValue arg) (scaleValue scale) := by
  have harg : (normalized arg : ℚ) = (arg.toNat : ℚ) := by
    rw [← normalized_toNat h]
    exact_mod_cast (Int.toNat_of_nonneg h).symm
  rw [quantize_eq_floor, quantizeExact, roundHalfUp, normalizedValue, scaleValue, harg]

/-- The intermediate value of R213. -/
theorem intermediate_lt {v s : Nat} (hv : v ≤ 65536) (hs : s < 2 ^ 32) : 4095 * v * s + 2 ^ 31 < 2 ^ 62 :=
  calc 4095 * v * s + 2 ^ 31
    _ ≤ 4095 * 65536 * 2 ^ 32 + 2 ^ 31 := by gcongr
    _ < 2 ^ 62 := by norm_num

end Sys2Proof.Machine

namespace Sys2Proof.Safety

open Sys2Proof.Machine

/-- Settles O46: the write is to the cell the indices name, and the duty written is `Q` of ARG and SCALE. -/
theorem setBrightnessStoresQuantized : Obligations.SetBrightnessStoresQuantized := by
  intro s ch r c h0 h1
  have hv : normalizedOk s.arg = true := decide_eq_true ⟨h0, h1⟩
  have hq := dutyOfArg_toNat h0
  refine ⟨_, exec_bufSetBrightness_of_valid (cellOf_ofNat ch r c) hv, ?_, ?_, fun ch' r' c' hne => ?_, rfl⟩
  · rw [State.respond_cell, writeCell_cell, if_pos rfl, hq]
  · rw [State.respond_result, setWidth_duty_toNat, hq]
  · rw [State.respond_cell, writeCell_cell, if_neg hne]

/-- Settles O50: over one denominator the rational's floor is the integer division, and no product needs more than 62
bits. -/
theorem quantizeIsRationalRounding : Obligations.QuantizeIsRationalRounding := by
  refine ⟨quantize_eq_floor, fun arg scale => ⟨⟨rfl, rfl⟩, normalizedOk_iff arg, fun h0 h1 => ?_⟩, fun _ _ => rfl,
    fun _ _ => rfl, fun v s => intermediate_lt⟩
  obtain ⟨hnonneg, -⟩ := of_decide_eq_true ((normalizedOk_iff arg).mpr ⟨h0, h1⟩)
  exact quantize_eq_quantizeExact hnonneg scale

/-- Settles O45: every cell is cleared, so whichever cell BUF_READ names, its answer is the one already given. -/
theorem bufClearZeroesEveryCell : Obligations.BufClearZeroesEveryCell := by
  refine ⟨rfl, fun s => ⟨s.clearBuf.respond .ok 0, rfl, fun ch r c => clearBuf_getElem s _, rfl,
    fun r c h hr hc hh => ?_⟩⟩
  obtain ⟨k, hk⟩ := cellOf_of_le hr hc hh
  have hzero : (s.clearBuf.respond .ok 0).buf[k] = 0 := clearBuf_getElem s k
  rw [exec_bufRead_of_some hk, hzero]
  rfl

/-- Settles O47: indices out of range name no cell, a value out of range fails the check on ARG, and both bounds of the
value pass it. -/
theorem outOfRangeInputRejected : Obligations.OutOfRangeInputRejected := by
  intro s r c h
  refine ⟨fun hbad => ?_, fun hbad => exec_bufRead_of_none (cellOf_eq_none.mpr hbad), fun hr hc hh harg => ?_⟩
  · refine exec_bufSetBrightness_of_invalid ?_
    rw [cellOf_eq_none, normalizedOk_eq_false_iff]
    simpa only [or_assoc] using hbad
  · obtain ⟨k, hk⟩ := cellOf_of_le hr hc hh
    have hv : normalizedOk s.arg = true := by
      obtain hlow | hhigh := harg
      · rw [hlow]; decide
      · rw [hhigh]; decide
    exact ⟨_, exec_bufSetBrightness_of_valid hk hv, rfl⟩

/-- Settles O48: the indices name the cell, whose value fits RESULT. -/
theorem bufReadAnswersCell : Obligations.BufReadAnswersCell := fun s ch r c =>
  ⟨(s.cell ch r c).setWidth 32, setWidth_duty_toNat _, exec_bufRead_of_some (cellOf_ofNat ch r c)⟩

/-- Settles O49: SET_SCALE is the one write of SCALE and `respond`, which leave the Buffer. -/
theorem setScaleTakesArg : Obligations.SetScaleTakesArg := fun _ =>
  ⟨_, rfl, rfl, fun _ _ _ => rfl⟩

end Sys2Proof.Safety
end

section
/-! SUPPORT. The exceptions (60_exceptions.md): the Host accesses that fault, what a faulted LMC still does, and the one
command that answers BUS_FAILURE. -/

namespace Sys2Proof.Machine

/-! ### Host accesses that fault (R234, R235) -/

/-- A bad width, offset or alignment reaches no register (R61, R62). -/
theorem portReg_of_bad {off : Int} {width : Nat} (h : width ≠ 32 ∨ off < 0 ∨ 0xF < off ∨ off % 4 ≠ 0) :
    portReg off width = none := by
  by_cases hw : width = 32
  · have hoff : off ≠ 0x0 ∧ off ≠ 0x4 ∧ off ≠ 0x8 ∧ off ≠ 0xC := by omega
    simp [portReg, hoff]
  · simp [portReg, hw]

/-- At any width an access reaches no register, or the one a 32-bit access reaches (R61). -/
theorem portReg_width (off : Int) (width : Nat) : portReg off width = none ∨ portReg off width = portReg off 32 := by
  by_cases hw : width = 32
  · exact .inr (hw ▸ rfl)
  · exact .inl (portReg_of_bad (.inl hw))

section
variable {s : State}

/-- A read that reaches no register, or CMD, faults (R62, R235). -/
theorem hostRead_of_bad {off : Int} {width : Nat} (h : portReg off width = none ∨ portReg off width = some .cmd) :
    s.hostRead off width = s.noData.raise .hostAccess := by
  obtain h | h := h <;> simp only [State.hostRead, h]

/-- A write that reaches no register, or RESULT or CSR, faults (R62, R235). -/
theorem hostWrite_of_bad {off : Int} {width : Nat}
    (h : portReg off width = none ∨ portReg off width = some .result ∨ portReg off width = some .csr) (w : Word) :
    s.hostWrite off width w = s.noData.raise .hostAccess := by
  obtain h | h | h := h <;> simp only [State.hostWrite, h]

/-- While BUSY is 1 a write of CMD or ARG faults, whatever it would have done (R234). -/
theorem portWrite_of_busy (hf : s.fault = none) (hb : s.busy = true) (perform : State → State) :
    s.noData.portWrite perform = { s with hostData := none, fault := some .hostProtocol } := by
  rw [State.portWrite, if_pos (s.noData_fault.trans hf), if_pos (s.noData_busy.trans hb), raise_noData hf]

/-! ### A faulted LMC (R236) -/

theorem hostAccess_of_faulted (hf : s.fault ≠ none) (a : HostAccess) :
    ∃ d n, s.hostAccess a = { s with hostData := d, draws := n } := by
  obtain ⟨d, n, h | ⟨-, hn, -⟩ | ⟨hn, -⟩⟩ := hostAccess_cases s a
  · exact ⟨d, n, h⟩
  · exact absurd hn hf
  · exact absurd hn hf

theorem hostProgramStep_of_faulted (hf : s.fault ≠ none) :
    ∃ p d n, s.hostProgramStep = { s with hostProg := p, hostData := d, draws := n } := by
  obtain h | ⟨p, a, h⟩ := hostProgramStep_cases s
  · exact ⟨s.hostProg, s.hostData, s.draws, h⟩
  · obtain ⟨d, n, ha⟩ := hostAccess_of_faulted (s := s.setProg p) hf a
    exact ⟨p, d, n, h.trans ha⟩

/-- Every turn of a faulted LMC but power-on is the Tick's step, or leaves all but what lies outside the LMC. -/
theorem turn_of_faulted {s' : State} {t : Turn} (hf : s.fault ≠ none) (hp : t ≠ .powerOn) (h : s.turn t = .next s') :
    (t = .tick ∧ s' = s.tickStep) ∨
      (t ≠ .tick ∧ ∃ p d n, s' = { s with hostProg := p, hostData := d, draws := n }) := by
  have hold : ∃ p d n, s = { s with hostProg := p, hostData := d, draws := n } :=
    ⟨s.hostProg, s.hostData, s.draws, rfl⟩
  cases t with
  | host a =>
    cases h
    obtain ⟨d, n, ha⟩ := hostAccess_of_faulted hf a
    exact .inr ⟨nofun, s.hostProg, d, n, ha⟩
  | hostProgram =>
    cases h
    exact .inr ⟨nofun, hostProgramStep_of_faulted hf⟩
  | controller =>
    cases h.symm.trans (controllerStep_faulted hf)
    exact .inr ⟨nofun, hold⟩
  | busPeer raw rx =>
    cases h
    rw [busPeerStep_hold (.inl hf)]
    exact .inr ⟨nofun, hold⟩
  | tick =>
    cases h
    exact .inl ⟨rfl, rfl⟩
  | powerOn => exact absurd rfl hp

end

/-! ### Every step answers a next state (R230, R236) -/

theorem exec_next (i : Instr) (s : State) : ∃ t, exec i s = .next t := by
  cases i <;> exact ⟨_, rfl⟩

theorem controllerStep_next (s : State) : ∃ t, s.controllerStep = .next t := by
  unfold State.controllerStep
  split
  · exact ⟨_, rfl⟩
  · exact ⟨_, rfl⟩
  · split
    · exact exec_next _ s
    · exact ⟨_, rfl⟩
  · split <;> exact ⟨_, rfl⟩

theorem turn_next (s : State) (t : Turn) : ∃ u, s.turn t = .next u := by
  cases t with
  | controller => exact controllerStep_next s
  | host | hostProgram | busPeer | tick | powerOn => exact ⟨_, rfl⟩

/-! ### A Host program at a poll (R91, R92, R244) -/

theorem csrBusy_csr (s : State) : csrBusy s.csr = s.busy := (Safety.csrFields.1 s).1

theorem csrResp_csr_eq_ok_iff (s : State) : csrResp s.csr = Resp.ok.code ↔ s.resp = .ok := by
  have hcode : csrResp s.csr = s.resp.code := (Safety.csrFields.1 s).2.1
  rw [hcode]
  cases s.resp <;> decide

section
variable {s : State} {rest : List HostOp}

theorem hostProgramStep_access {a : HostAccess} (h : s.hostProg = .access a :: rest) :
    s.hostProgramStep = (s.setProg rest).hostAccess a := by
  simp only [State.hostProgramStep, h]

theorem hostProgramStep_nil (h : s.hostProg = []) : s.hostProgramStep = s := by
  simp only [State.hostProgramStep, h]

/-- A poll at WAIT reads CSR, and leaves WAIT when BUSY is 0. -/
theorem hostProgramStep_wait (h : s.hostProg = .wait :: rest) :
    s.hostProgramStep = (s.setProg (if s.busy then .wait :: rest else rest)).answer s.csr := by
  simp only [State.hostProgramStep, h, csrBusy_csr]
  cases s.busy
  · rfl
  · rw [← h]
    rfl

/-- The poll of WREG_RETRY reads CSR, and goes round again unless RESP is OK. -/
theorem hostProgramStep_retry {a : ChipAddr} {g v : Byte} (h : s.hostProg = .retryUnlessOk a g v :: rest) :
    s.hostProgramStep = (s.setProg (if s.resp = .ok then rest else retryLoop a g v ++ rest)).answer s.csr := by
  simp only [State.hostProgramStep, h, csrResp_csr_eq_ok_iff]
  split <;> rfl

end

/-! ### First steps without the Bus Driver or the Time Base (R237, R238, R239) -/

section
variable {s : State}

/-- CHIP_INIT's write at an index of `INIT_SEQ` faults on a disabled bus (R180, R237). -/
theorem initWrite_of_disabled {idx : Nat} {w : Byte × Byte} (hb : s.bdEn = false) (hf : s.fault = none)
    (h : s.cfg.initSeq[idx]? = some w) (a : ChipAddr) :
    s.initWrite a idx = { s with fault := some .busNotEnabled } := by
  simp only [State.initWrite, h]
  exact busPhase_of_disabled hb hf _ _ _

/-- A pass on a disabled bus faults at its first START, after the heartbeat and the first column (R153, R154, R237). -/
theorem scanPass_of_disabled (hb : s.bdEn = false) (hf : s.fault = none) (se : Scan) :
    s.scanPass se = { s.toggleHb.setEn (oneHot s.cfg.colOrder[0]) with fault := some .busNotEnabled } :=
  busPhase_of_disabled (s := s.toggleHb.setEn (oneHot s.cfg.colOrder[0])) hb hf _ _ _

/-- A period that fits faults on a Time Base that is not configured (R238, R239). -/
theorem scanStart_of_unconfigured (ht : s.tbCfg = false) (hf : s.fault = none)
    (hp : s.arg.toNat < 2 ^ s.cfg.tbWidth) : s.scanStart = { s with fault := some .tbNotConfigured } := by
  rw [State.scanStart, periodOk, if_pos (decide_eq_true hp), if_neg (Bool.eq_false_iff.mp ht), raise_of_unfaulted hf]

end

/-! ### Where BUS_FAILURE is answered (R231)

A step that answers leaves the Controller at IDLE, and there only a register write of RT_WRITE_REG answers this code. -/

section
variable {s : State}

theorem raise_ctl_ne_idle (hc : s.ctl ≠ .idle) (k : Fault) : (s.raise k).ctl ≠ .idle := by
  rwa [State.raise_ctl]

/-- CHIP_INIT's next write or answer ends it only by answering OK (R180). -/
theorem initWrite_resp_of_idle (hc : s.ctl ≠ .idle) {a : ChipAddr} {idx : Nat} (hi : (s.initWrite a idx).ctl = .idle) :
    (s.initWrite a idx).resp = .ok := by
  unfold State.initWrite at hi ⊢
  split at hi
  · exact absurd hi (busPhase_ctl_ne_idle hc _ _ _)
  · rfl

theorem endInitWrite_resp_of_idle (hc : s.ctl ≠ .idle) {a : ChipAddr} {idx : Nat} {e : TxnEnd}
    (hi : (s.endInitWrite a idx e).ctl = .idle) : (s.endInitWrite a idx e).resp = .ok := by
  unfold State.endInitWrite at hi ⊢
  split_ifs at hi ⊢ <;> exact initWrite_resp_of_idle hc hi

/-- SWEEP's first step ends it only by answering INPUT_ERROR (R150). -/
theorem scanStart_resp_of_idle (hc : s.ctl ≠ .idle) (hi : s.scanStart.ctl = .idle) :
    s.scanStart.resp = .inputError := by
  unfold State.scanStart at hi ⊢
  split_ifs at hi ⊢
  · exact absurd hi (busPhase_ctl_ne_idle (s := ({ s with tbRun := true } : State).toggleHb.setEn _) hc _ _ _)
  · exact absurd hi (raise_ctl_ne_idle hc _)
  · rfl

/-- No command answers BUS_FAILURE in its first step. -/
theorem exec_resp_ne_busFailure {i : Instr} {t : State} (hc : s.ctl ≠ .idle) (hx : exec i s = .next t)
    (hi : t.ctl = .idle) : t.resp ≠ .busFailure := by
  cases i with
  | bdStart | bdWrite _ | bdReadAck | bdReadNack | rtWriteReg _ _ _ =>
    cases hx
    exact absurd hi (busPhase_ctl_ne_idle hc _ _ _)
  | bdStop =>
    obtain rfl | rfl : t = s.issueStop.respond .ok 0 ∨ t = s.raise .busNotEnabled := by
      cases hx; exact busStop_cases s _
    · exact Resp.noConfusion
    · exact absurd hi (raise_ctl_ne_idle hc _)
  | chipInit a =>
    cases hx
    rw [initWrite_resp_of_idle hc hi]
    exact Resp.noConfusion
  | sweep =>
    cases hx
    rw [scanStart_resp_of_idle hc hi]
    exact Resp.noConfusion
  | tbStart =>
    cases hx
    split_ifs at hi ⊢
    · exact Resp.noConfusion
    · exact absurd hi (raise_ctl_ne_idle hc _)
  | bufSetBrightness r c h =>
    cases hx
    cases cellOf r c h with
    | none => exact Resp.noConfusion
    | some k => cases normalizedOk s.arg <;> exact Resp.noConfusion
  | bufRead r c h =>
    cases hx
    cases cellOf r c h <;> exact Resp.noConfusion
  | bdInit | bdStatus | tbInit | tbStop | tbClear | tbRead | bufClear | setScale =>
    cases hx
    exact Resp.noConfusion

/-- The register write of RT_WRITE_REG answers BUS_FAILURE only at a mismatch, with its phase and status (R134). -/
theorem resume_writeReg_busFailure (hc : s.ctl ≠ .idle) {t : Txn}
    (hi : (s.resume (.txn t .writeReg)).ctl = .idle) (hr : (s.resume (.txn t .writeReg)).resp = .busFailure) :
    s.readStat.1 ≠ t.ph.expected ∧
      (s.resume (.txn t .writeReg)).result = BitVec.ofNat 32 (t.ph.number.toNat * 256 + s.readStat.1.toNat) := by
  have hc' : s.readStat.2.ctl ≠ .idle := by rwa [readStat_frame]
  obtain ⟨hne, h⟩ | ⟨-, ⟨-, h⟩ | ⟨-, h⟩ | ⟨-, h⟩ | ⟨-, h⟩⟩ :=
    checkPhase_cases s t .writeReg fun e u => u.endTxn .writeReg e <;> rw [State.resume, h] at hi hr ⊢
  · exact ⟨hne, failureWord_eq t.ph.number s.readStat.1⟩
  · exact absurd hi (busPhase_ctl_ne_idle hc' _ _ _)
  · exact absurd hi (busPhase_ctl_ne_idle hc' _ _ _)
  · exact absurd hi (busPhase_ctl_ne_idle hc' _ _ _)
  · obtain hstop | hraise := busStop_cases s.readStat.2 fun u => u.endTxn .writeReg { ok := true, ph := 0, st := 0 }
    · rw [hstop] at hr
      exact absurd hr Resp.noConfusion
    · rw [hraise] at hi
      exact absurd hi (raise_ctl_ne_idle hc' _)

/-- From a wait point BUS_FAILURE is answered only inside RT_WRITE_REG (R231). -/
theorem resume_busFailure {w : Wait} (hc : s.ctl ≠ .idle) (hi : (s.resume w).ctl = .idle)
    (hr : (s.resume w).resp = .busFailure) : ∃ t, w = .txn t .writeReg := by
  cases w with
  | respondZero | respondByte => exact nomatch hr
  | txn t who =>
    obtain ⟨-, u, e, hback, -, -, -, hu⟩ := Safety.checkPhase_idle hc hi
    have hres : s.resume (.txn t who) = u.endTxn who e := hback
    rw [hres] at hi hr
    cases who with
    | writeReg => exact ⟨t, rfl⟩
    | chipInit a idx => cases (endInitWrite_resp_of_idle (hu ▸ hc) hi).symm.trans hr
    | sweep se =>
      obtain ⟨-, -, hexit⟩ := endScanWrite_idle (hu ▸ hc) hi
      cases (congrArg State.resp hexit).symm.trans hr

end

end Sys2Proof.Machine

namespace Sys2Proof.Safety

open Sys2Proof.Machine

/-- Settles O15: a faulted LMC's turn is the Tick's step or leaves all but what lies outside the LMC. -/
theorem faultedLmcIsFrozen : Obligations.FaultedLmcIsFrozen := by
  intro s s' k hk hp hs
  have hf : s.nextTurn.2.fault ≠ none := by simp [hk]
  obtain ⟨ht, rfl⟩ | ⟨ht, p, d, n, rfl⟩ := turn_of_faulted hf hp hs
  · refine ⟨?_, fun hne => absurd ht hne, fun _ hc hr => ?_, fun _ hoff => ?_⟩
    · obtain ⟨-, -, h⟩ | h := tickStep_cases s.nextTurn.2
      · rw [h, nextTurn_frame]
        rfl
      · rw [h, nextTurn_frame]
    · rw [tickStep_of_running (by simpa using hc) (by simpa using hr)]
      simp
    · rw [tickStep_hold (by simpa using hoff)]
      simp
  · refine ⟨?_, fun _ => State.nextTurn_cnt s, fun h => absurd h ht, fun h => absurd h ht⟩
    rw [nextTurn_frame]

/-- Settles O30: a step that answers is the Controller's and leads to IDLE, and of those only RT_WRITE_REG's at a
mismatch answers BUS_FAILURE. -/
theorem busFailureOnlyFromRegisterWrite : Obligations.BusFailureOnlyFromRegisterWrite := by
  intro s s' hs hr hchange
  have hanswer : s'.result ≠ s.result ∨ s'.resp ≠ s.resp ∨ (s.busy = true ∧ s'.busy = false) :=
    .inr (hchange.imp_left fun h => hr ▸ h.symm)
  obtain ⟨hturn, -, hidle, -⟩ := answerOnlyAtTheEnd s s' hs hanswer
  obtain ⟨-, rfl⟩ | ⟨ht, h⟩ | ⟨hp, hc, -⟩ := step_cases hs
  · exact nomatch hr
  · obtain rfl | ⟨-, hc, i, -, hx⟩ | ⟨-, -, -, rfl⟩ | ⟨-, w, hc, -, rfl⟩ := controllerStep_cases h
    · simp at hanswer
    · exact absurd hr (exec_resp_ne_busFailure (hc ▸ Ctl.noConfusion) hx hidle)
    · exact nomatch hr
    · have hne : s.nextTurn.2.ctl ≠ .idle := hc ▸ Ctl.noConfusion
      obtain ⟨t, rfl⟩ := resume_busFailure hne hidle hr
      refine ⟨t, ht, by simpa using hc, fun st hst => ?_⟩
      have hread := readStat_of_some (s := s.nextTurn.2) (v := st) (by rwa [nextTurn_frame])
      have hfail := resume_writeReg_busFailure hne hidle hr
      rwa [hread] at hfail
  · exact absurd hturn (not_or.mpr ⟨hc, hp⟩)

/-- Settles O8: each arm of `exec`, and each agent's turn, is a next state. -/
theorem everyStepAnswersNext : Obligations.EveryStepAnswersNext :=
  ⟨exec_next, fun s => turn_next s.nextTurn.2 s.nextTurn.1⟩

/-- Settles O11: both offsets lead to `portWrite`, which faults while BUSY is 1. -/
theorem writeWhileBusyFaults : Obligations.WriteWhileBusyFaults := by
  intro s off w ts hf hb hoff hs
  have hport := portWrite_of_busy (s := { s with script := ts }) hf hb
  rw [step_placed hs]
  obtain rfl | rfl := hoff
  · exact congrArg Host.Outcome.next (hport fun t => t.startCommand w)
  · exact congrArg Host.Outcome.next (hport fun t => t.storeArg w)

/-- Settles O12: a bad access reaches no register, or one that its direction does not admit. -/
theorem badAccessFaults : Obligations.BadAccessFaults := by
  intro s off width w ts hf
  have hfault := raise_noData (s := { s with script := ts }) (k := .hostAccess) hf
  refine ⟨fun hs hbad => ?_, fun hs hbad => ?_⟩
  · have hreg : portReg off width = none ∨ portReg off width = some .cmd := by
      obtain hbad | rfl : (width ≠ 32 ∨ off < 0 ∨ 0xF < off ∨ off % 4 ≠ 0) ∨ off = 0x0 := by
        simpa only [or_assoc] using hbad
      · exact .inl (portReg_of_bad hbad)
      · exact portReg_width 0x0 width
    exact (step_placed hs).trans (congrArg Host.Outcome.next ((hostRead_of_bad hreg).trans hfault))
  · have hreg : portReg off width = none ∨ portReg off width = some .result ∨ portReg off width = some .csr := by
      obtain hbad | rfl | rfl : (width ≠ 32 ∨ off < 0 ∨ 0xF < off ∨ off % 4 ≠ 0) ∨ off = 0x8 ∨ off = 0xC := by
        simpa only [or_assoc] using hbad
      · exact .inl (portReg_of_bad hbad)
      · exact (portReg_width 0x8 width).imp_right .inl
      · exact (portReg_width 0xC width).imp_right .inr
    exact (step_placed hs).trans (congrArg Host.Outcome.next ((hostWrite_of_bad hreg w).trans hfault))

/-- Settles O14: the Host's step by the operation its program begins with. -/
theorem hostPollsUntilDone : Obligations.HostPollsUntilDone := by
  intro s rest ts hs
  rw [step_placed hs]
  refine ⟨fun h => ?_, fun a g v h => ?_, fun a h => ?_, fun h => ?_⟩
  · exact congrArg Host.Outcome.next (hostProgramStep_wait (s := { s with script := ts }) h)
  · exact congrArg Host.Outcome.next (hostProgramStep_retry (s := { s with script := ts }) h)
  · exact congrArg Host.Outcome.next (hostProgramStep_access (s := { s with script := ts }) h)
  · exact congrArg Host.Outcome.next (hostProgramStep_nil (s := { s with script := ts }) h)

/-- Settles O26: each command's first bus procedure faults on a disabled bus, SWEEP's after its entry. -/
theorem busNotEnabledFault : Obligations.BusNotEnabledFault := by
  intro s hb hf
  refine ⟨fun a b g v i hi => ?_, fun a hseq => ?_, fun ht hp => ?_⟩
  · simp only [List.mem_cons, List.not_mem_nil, or_false] at hi
    obtain rfl | rfl | rfl | rfl | rfl | rfl := hi
    case inr.inl => exact congrArg Host.Outcome.next (busStop_of_disabled hb hf _)
    all_goals exact congrArg Host.Outcome.next (busPhase_of_disabled hb hf _ _ _)
  · obtain ⟨w, rest, hw⟩ := List.exists_cons_of_ne_nil hseq
    exact congrArg Host.Outcome.next (initWrite_of_disabled (idx := 0) (w := w) hb hf (by simp [hw]) a)
  · have hpass := scanPass_of_disabled (s := { s with tbRun := true }) hb hf
    rw [List.append_cons s.outTrace]
    exact congrArg Host.Outcome.next ((scanStart_of_period_lt ht hp).trans (hpass _))

/-- Settles O36: TB_START's clause stands in `timeBaseCommands`, and SWEEP's check of `TB_CFG` follows that of the
period. -/
theorem timeBaseNotConfiguredFault : Obligations.TimeBaseNotConfiguredFault := by
  intro s ht hf
  obtain ⟨-, hcommands⟩ := timeBaseCommands
  obtain ⟨-, -, hstart, -⟩ := hcommands s
  exact ⟨hstart ht hf, fun hp => congrArg Host.Outcome.next (scanStart_of_unconfigured ht hf hp)⟩

end Sys2Proof.Safety
end

section
/-! SUPPORT. Reset (70_reset_and_hazards.md): the reset state is what power-on makes of any state of the reset board, so that
what holds after power-on holds of it. -/

namespace Sys2Proof.Machine

/-- A CSR that shows no command in progress and the answer OK is zero (R23, R25). -/
theorem csr_eq_zero {s : State} (hb : s.busy = false) (hr : s.resp = .ok) : s.csr = 0 := by
  rw [State.csr, hb, hr]
  rfl

theorem cell_le (s : State) (ch : Fin 3) (r c : Fin 9) : (s.cell ch r c).toNat ≤ 4095 :=
  Nat.le_of_lt_succ (s.cell ch r c).isLt

/-- After power-on each cell holds the draw of this power-on for it (R35). -/
@[simp] theorem powerOn_cell (s : State) (ch : Fin 3) (r c : Fin 9) :
    s.powerOn.cell ch r c = Config.drawCell s.draws (cellIndex ch r c) := by
  simp [State.cell]

/-- The reset state is power-on's result on the reset board, with draw 0 for the cells (R260). -/
theorem reset_eq_powerOn : State.reset = State.powerOn { State.reset with draws := 0 } := rfl

end Sys2Proof.Machine

namespace Sys2Proof.Safety

open Sys2Proof.Machine

/-- Settles O56: every element is read off the reset state; CSR is made of BUSY and RESP, and a duty has 12 bits. -/
theorem resetValues : Obligations.ResetValues :=
  have hcsr : State.reset.csr = 0 := csr_eq_zero rfl rfl
  ⟨rfl, rfl, rfl, rfl, rfl, rfl, hcsr, rfl, rfl, rfl, rfl, rfl, rfl, rfl, rfl, rfl, rfl, rfl, rfl, rfl,
    cell_le State.reset⟩

/-- Settles O57: the placed turn is power-on, which asks nothing of the state it is taken in. -/
theorem powerOnResets : Obligations.PowerOnResets := by
  intro s ts hs
  exact ⟨State.powerOn { s with script := ts }, step_placed hs, powerOn_cell _, rfl⟩

/-- Settles O59: power-on establishes the invariant, and the reset state is a state after power-on. -/
theorem resetMeetsInvariant : Obligations.ResetMeetsInvariant := by
  unfold Obligations.ResetMeetsInvariant
  rw [reset_eq_powerOn]
  exact powerOn_inv _

end Sys2Proof.Safety
end
